-- ==== Sys2Proof/Word.lean ====
section
/-! DEFINITION. The machine's words: 32-bit words and addresses, bytes of command RAM, 12-bit opcodes, and binary32
bit patterns (rules R9 `WORD`, R10, R11, R81, R190). Arithmetic on `Word` is `BitVec`'s: unsigned, modulo 2^32 (R11). -/

namespace Sys2Proof

/-- A 32-bit word: an instruction word, a register, an address (R9 `WORD`, R11). -/
abbrev Word := BitVec 32

/-- One byte of command RAM (R60). -/
abbrev Byte := BitVec 8

/-- A 12-bit opcode, the low bits of an instruction's first word (R81). -/
abbrev Opcode := BitVec 12

/-- A binary32 value, held as its bit pattern (R190): `asF32(w)` is the word itself. -/
abbrev F32 := Word

end Sys2Proof
end

