-- ==== Sys2Proof/Config.lean ====
section
/-! DEFINITION. The configuration record `CFG` of rule R9 as plain data, its fixed constants, the test configuration EXCFG
of 95_test_vectors.md, and the model's free values (opaque constants: nothing in Lean can evaluate them).

The record stands in `State` (field `cfg`), so that every statement over all states quantifies over every configuration,
as R9 asks; no step changes it. A parameter of `CFG` that is a function (`UV_DECODE`, `FDIV32`, `FADD32`, `CRAM_CANON`) is a
selector: the spec's decided default, or `other k`, the `k`-th uninterpreted function. -/

namespace Sys2Proof

/-- The 64 mnemonics of rule R91, in the table's order. -/
inductive Mnemonic where
  | NOP | JUMP | CALL | RET | KILL | SYNC | CLEAR_A | CLEAR_B
  | VP_SET_0 | VP_SET_1 | VP_SET_2 | VP_SET_3 | VP_SET_4 | VP_SET_5 | VP_COMMIT | VP_RECALL
  | COLOR_SET_0 | COLOR_SET_2 | COLOR_SET_4 | COLOR_SET_6 | COLOR_COMMIT | COLOR_RECALL
  | TEX_SET_0 | TEX_SET_2 | TEX_SET_4 | TEX_COMMIT | TEX_RECALL
  | MTX_SET_0 | MTX_SET_1 | MTX_SET_2 | MTX_SET_3 | MTX_COMMIT
  | VTX3F_0 | VTX3F_1 | VTX3F_2 | VTX3F_3
  | VTXN_0 | VTXN_1 | VTXN_2 | VTXN_3 | VTXN_4 | VTXN_5 | VTXN_6 | VTXN_7
  | TEXCOORD_0 | TEXCOORD_1
  | DIAG_101 | DIAG_301 | DIAG_501 | DIAG_043 | DIAG_901 | DIAG_3A1 | DIAG_5A1 | DIAG_6D1 | DIAG_181
  | DIAG_303 | DIAG_104 | DIAG_051 | DIAG_006 | DIAG_046 | DIAG_451 | DIAG_064 | DIAG_561 | DIAG_E88
  deriving DecidableEq, Repr

/-- The four instruction formats of rule R83. -/
inductive Format where
  | f4 | f8 | f16 | f32
  deriving DecidableEq, Repr

/-- The lengths open to a Viewport Set: 8 or 16 bytes (R9 `LEN_VPSET`). -/
inductive VpFormat where
  | f8 | f16
  deriving DecidableEq, Repr

/-- The lengths open to a diagnostic opcode: 4, 8 or 16 bytes (R9 `LEN_DIAG`). -/
inductive DiagFormat where
  | f4 | f8 | f16
  deriving DecidableEq, Repr

/-- `FIELD[m][f] = (word, hi, lo)`, an unsigned bit slice of one instruction word (R87). -/
structure Field where
  word : Nat
  hi   : Nat
  lo   : Nat
  deriving DecidableEq, Repr

/-- The three sub-fields of one Matrix Set Vector opcode (R87). -/
structure MtxFields where
  index : Field
  mid   : Field
  sub   : Field
  deriving DecidableEq, Repr

/-- The two header fields of one Vertex Normal 3f opcode (R87). -/
structure VtxNFields where
  h0 : Field
  h1 : Field
  deriving DecidableEq, Repr

/-- The `count` and `modifier` fields of COLOR_COMMIT or COLOR_RECALL (R87). -/
structure ColorFields where
  count    : Field
  modifier : Field
  deriving DecidableEq, Repr

/-- The parameter `FIELD` of rule R9, for every mnemonic that names sub-fields in rule R87. -/
structure FieldMap where
  sync        : Vector Field 4
  clearA      : List Field
  clearB      : List Field
  vpCommitN   : Field
  vpRecallN   : Field
  vpRecallP   : Field
  vpRecallQ   : Field
  colorCommit : ColorFields
  colorRecall : ColorFields
  mtxSet      : Vector MtxFields 4
  mtxCommit   : Field
  vtxN        : Vector VtxNFields 8
  deriving DecidableEq, Repr

/-- The three register blocks the bus decode knows (R28, R254). -/
inductive Block where
  | b15 | b18 | b1A
  deriving DecidableEq, Repr

/-- One range of the bus classification `CLASSIFY` (R254: "classified ... by range"). -/
structure BusRegion where
  base  : Word
  bytes : Nat
  block : Block
  deriving DecidableEq, Repr

/-- A set of bits of one register word: an element of `BUSY_BITS` (R39) or of `READ_CLEAR` (R253). -/
structure RegBits where
  block  : Block
  offset : Nat
  mask   : Word
  deriving DecidableEq, Repr

/-- `CRAM_ENDIAN` (R61): the byte order of command RAM. -/
inductive Endian where
  | little | big
  deriving DecidableEq, Repr

/-- `CRAM_CANON` (R60): the identity, or the `k`-th uninterpreted map. -/
inductive CramCanon where
  | identity | other (k : Nat)
  deriving DecidableEq, Repr

/-- `UV_DECODE` (R194): the spec's default packing, or the `k`-th uninterpreted decoding. -/
inductive UvDecode where
  | halfwords | other (k : Nat)
  deriving DecidableEq, Repr

/-- `FDIV32` and `FADD32` (R193): IEEE-754 binary32, or the `k`-th uninterpreted pair of operations. -/
inductive Arith where
  | ieee754 | other (k : Nat)
  deriving DecidableEq, Repr

/-- The configuration record `CFG` of rule R9: every parameter the spec leaves open or decides. The values the source
fixes are constants below, not fields. -/
structure Cfg where
  /-- `WC_BASE`. -/
  wcBase : Word
  /-- `OPMAP`, by `Mnemonic.index`; the entries of NOP and the diagnostic opcodes are not read (their values are fixed). -/
  opmap : Vector Opcode 64
  /-- `LEN_RET`. -/
  lenRet : Format
  /-- `LEN_VPSET[k]`. -/
  lenVpSet : Vector VpFormat 6
  /-- `LEN_DIAG`, the 18 diagnostic opcodes in the order of rule R91. -/
  lenDiag : Vector DiagFormat 18
  /-- `RSV[m][j]`, by `Mnemonic.index` and word; NOP's mask and the float words' masks are fixed and not read here. -/
  rsv : Vector (Vector Word 8) 64
  /-- `FIELD`. -/
  field : FieldMap
  /-- `SYNC_VALID`, as the list of field combinations `s3 ++ s2 ++ s1 ++ s0` that are not legal. -/
  syncIllegal : List (BitVec 8)
  /-- `UV_DECODE`. -/
  uvDecode : UvDecode
  /-- `FDIV32`, `FADD32`. -/
  arith : Arith
  /-- `CRAM_ENDIAN`. -/
  cramEndian : Endian
  /-- `CRAM_CANON`. -/
  cramCanon : CramCanon
  /-- `OFF_START`. -/
  offStart : Nat
  /-- `OFF_PC_SEED`. -/
  offPcSeed : Nat
  /-- `OFF_SP0_SEED`. -/
  offSp0Seed : Nat
  /-- `OFF_SP1_SEED`. -/
  offSp1Seed : Nat
  /-- `OFF_IDMA_ADDR`. -/
  offIdmaAddr : Nat
  /-- `OFF_IDMA_COUNT`. -/
  offIdmaCount : Nat
  /-- `OFF_IDMA_CTRL`. -/
  offIdmaCtrl : Nat
  /-- `OFF_SEGA_ID`. -/
  offSegaId : Nat
  /-- `FIFO_OFF`. -/
  fifoOff : Nat
  /-- `DECL_18`. -/
  decl18 : List Nat
  /-- `CLASSIFY`: the first range that holds the address names the block. -/
  classify : List BusRegion
  /-- `BLOCK_SIZE[15]`. -/
  blockSize15 : Word
  /-- `BLOCK_SIZE[18]`. -/
  blockSize18 : Word
  /-- `BLOCK_SIZE[1A]`. -/
  blockSize1A : Word
  /-- The first of `BUSY_BITS`. -/
  busy0 : RegBits
  /-- The second of `BUSY_BITS`. -/
  busy1 : RegBits
  /-- `CPDONE_MAIN`. -/
  cpDoneMain : BitVec 8
  /-- `CPDONE_SEC`. -/
  cpDoneSec : BitVec 4
  /-- `DMADONE_MAIN`. -/
  dmaDoneMain : BitVec 8
  /-- `DMADONE_SEC`. -/
  dmaDoneSec : BitVec 4
  /-- `IDMA_MARKER`. -/
  idmaMarker : BitVec 8
  /-- `IRQ_VECTOR`. -/
  irqVector : Nat
  /-- `READ_CLEAR`. -/
  readClear : List RegBits
  deriving DecidableEq, Repr

/-! ## Constants the source fixes (R9) -/

/-- `WIN_SIZE`: 4 MiB. -/
def Config.winSize : Nat := 0x00400000
/-- `WJ_BASE`. -/
def Config.wjBase : Word := 0x48000000
/-- The identification word of block 18 offset `0x00` (R40, R256). -/
def Config.boardId : Word := 0x17C711DB
/-- The literal "SEGA" (R258). -/
def Config.segaId : Word := 0x53454741

/-! ## Free values

A claim holds for every value of each, since no proof can see one. -/

/-- The `n`-th draw of the run: a NaN's sign and payload (R193), a read of the write-only "SEGA" word (R258), the reason
reported when an IDMA address fails both checks (R295). -/
opaque Config.draw : Nat → Word

/-- The byte that location `loc` of command RAM holds at the power-up named `p`, before anything writes it (R60, R320). -/
opaque Config.powerUpByte : (p loc : Nat) → Byte

/-- The `k`-th uninterpreted `CRAM_CANON` (R60). -/
opaque Config.otherCanon : Nat → Word → Nat

/-- The `k`-th uninterpreted `UV_DECODE` (R194): `u` and `v`. -/
opaque Config.otherUvDecode : Nat → Word → F32 × F32

/-- The `k`-th uninterpreted `FDIV32` (R193). -/
opaque Config.otherFdiv : Nat → F32 → F32 → F32

/-- The `k`-th uninterpreted `FADD32` (R193). -/
opaque Config.otherFadd : Nat → F32 → F32 → F32

/-! ## EXCFG (95_test_vectors.md section 1)

DESIGN CHOICE (log entry 1): a hypothetical value of `CFG`, the only complete one the spec writes out; not a claim about
the hardware. `State.reset` carries it. -/

/-- A reserved mask on the first word only, the other words free. -/
def Config.firstWordMask (m : Word) : Vector Word 8 := #v[m, 0, 0, 0, 0, 0, 0, 0]

/-- EXCFG's `FIELD`. -/
def Config.exFields : FieldMap where
  sync := #v[⟨0, 13, 12⟩, ⟨0, 15, 14⟩, ⟨0, 17, 16⟩, ⟨0, 19, 18⟩]
  clearA := [⟨1, 7, 0⟩, ⟨1, 15, 8⟩, ⟨1, 31, 16⟩]
  clearB := [⟨1, 7, 0⟩, ⟨1, 15, 8⟩, ⟨1, 31, 16⟩]
  vpCommitN := ⟨0, 14, 12⟩
  vpRecallN := ⟨0, 14, 12⟩
  vpRecallP := ⟨0, 16, 15⟩
  vpRecallQ := ⟨0, 18, 17⟩
  colorCommit := ⟨⟨0, 15, 12⟩, ⟨0, 17, 16⟩⟩
  colorRecall := ⟨⟨0, 15, 12⟩, ⟨0, 17, 16⟩⟩
  mtxSet :=
    let f : MtxFields := ⟨⟨0, 14, 12⟩, ⟨0, 17, 16⟩, ⟨0, 19, 18⟩⟩
    #v[f, f, f, f]
  mtxCommit := ⟨0, 14, 12⟩
  vtxN :=
    let f : VtxNFields := ⟨⟨1, 15, 0⟩, ⟨1, 31, 16⟩⟩
    #v[f, f, f, f, f, f, f, f]

/-- EXCFG's `RSV`. -/
def Config.exRsv : Vector (Vector Word 8) 64 :=
  let a := Config.firstWordMask 0xFFFFF000
  let sync := Config.firstWordMask 0xFFF00000
  let idx3 := Config.firstWordMask 0xFFFF8000
  let vprec := Config.firstWordMask 0xFFF80000
  let color := Config.firstWordMask 0xFFFC0000
  let mtx := Config.firstWordMask 0xFFF08000
  #v[a, a, a, a, a, sync, a, a,
     a, a, a, a, a, a, idx3, vprec,
     a, a, a, a, color, color,
     a, a, a, a, a,
     mtx, mtx, mtx, mtx, idx3,
     a, a, a, a,
     a, a, a, a, a, a, a, a,
     a, a,
     a, a, a, a, a, a, a, a, a,
     a, a, a, a, a, a, a, a, a]

/-- EXCFG, the test configuration of 95_test_vectors.md. -/
def Config.excfg : Cfg where
  wcBase := 0x4C000000
  opmap :=
    #v[0x000, 0xF01, 0xF02, 0xF03, 0xF04, 0xF05, 0xF06, 0xF07,
       0xF10, 0xF11, 0xF12, 0xF13, 0xF14, 0xF15, 0xF16, 0xF17,
       0xF20, 0xF22, 0xF24, 0xF26, 0xF28, 0xF29,
       0xF30, 0xF32, 0xF34, 0xF38, 0xF39,
       0xF40, 0xF41, 0xF42, 0xF43, 0xF44,
       0xF50, 0xF51, 0xF52, 0xF53,
       0xF60, 0xF61, 0xF62, 0xF63, 0xF64, 0xF65, 0xF66, 0xF67,
       0xF70, 0xF71,
       0x101, 0x301, 0x501, 0x043, 0x901, 0x3A1, 0x5A1, 0x6D1, 0x181,
       0x303, 0x104, 0x051, 0x006, 0x046, 0x451, 0x064, 0x561, 0xE88]
  lenRet := .f4
  lenVpSet := #v[.f8, .f8, .f8, .f16, .f16, .f16]
  lenDiag := #v[.f4, .f4, .f4, .f4, .f4, .f4, .f4, .f4, .f4, .f8, .f4, .f4, .f4, .f4, .f4, .f4, .f4, .f16]
  rsv := Config.exRsv
  field := Config.exFields
  syncIllegal := []
  uvDecode := .halfwords
  arith := .ieee754
  cramEndian := .little
  cramCanon := .identity
  offStart := 0x40
  offPcSeed := 0x44
  offSp0Seed := 0x48
  offSp1Seed := 0x4C
  offIdmaAddr := 0x20
  offIdmaCount := 0x24
  offIdmaCtrl := 0x28
  offSegaId := 0xFC
  fifoOff := 0x280
  decl18 := []
  classify := [⟨0x15000000, 0x100, .b15⟩, ⟨0x18000000, 0x100, .b18⟩, ⟨0x1A000000, 0x400, .b1A⟩]
  blockSize15 := 0x100
  blockSize18 := 0x100
  blockSize1A := 0x400
  busy0 := ⟨.b15, 0x40, 1⟩
  busy1 := ⟨.b1A, 0x24, 1⟩
  cpDoneMain := 0x02
  cpDoneSec := 0x1
  dmaDoneMain := 0x01
  dmaDoneSec := 0x0
  idmaMarker := 0x48
  irqVector := 0
  readClear := []

end Sys2Proof
end

