-- ==== Sys2Proof/Syntax.lean ====
section
/-! DEFINITION. The instructions: one constructor per row of spec/opcode_table.json (rule R91), with the operands of its
rule. An operand word of a fixed width stands as it is; a sub-field whose width the source fixes is a `BitVec` of that
width; a sub-field whose width is OPEN (R87) is the zero-extended `Word` that `fld` gives. `attr` is `w0[31:12]` where the
rule calls those bits operands with an OPEN layout (R144, R161, R168, R171). `ws` and `extra` are the words after `w0`
where the length is OPEN (R143, R221). RET's further words carry nothing (R123). -/

namespace Sys2Proof

/-- The instruction set (R91). -/
inductive Instr where
  | nop                                                                    -- NOP, R120
  | jump (w1 : Word)                                                       -- JUMP, R121
  | call (w1 : Word)                                                       -- CALL, R122
  | ret                                                                    -- RET, R123
  | kill                                                                   -- KILL, R124
  | sync (s0 s1 s2 s3 : BitVec 2)                                          -- SYNC, R125
  | clearA (w1 : Word)                                                     -- CLEAR_A, R126
  | clearB (w1 : Word)                                                     -- CLEAR_B, R127
  | vpSet0 (attr : BitVec 20) (ws : List Word)                             -- VP_SET_0, R144
  | vpSet1 (attr : BitVec 20) (ws : List Word)                             -- VP_SET_1, R145
  | vpSet2 (attr : BitVec 20) (ws : List Word)                             -- VP_SET_2, R146
  | vpSet3 (attr : BitVec 20) (ws : List Word)                             -- VP_SET_3, R147
  | vpSet4 (attr : BitVec 20) (ws : List Word)                             -- VP_SET_4, R148
  | vpSet5 (attr : BitVec 20) (ws : List Word)                             -- VP_SET_5, R149
  | vpCommit (n : BitVec 3)                                                -- VP_COMMIT, R150
  | vpRecall (n p q : Word)                                                -- VP_RECALL, R151
  | colorSet0 (attr : BitVec 20) (w1 : Word)                               -- COLOR_SET_0, R161
  | colorSet2 (attr : BitVec 20) (w1 : Word)                               -- COLOR_SET_2, R162
  | colorSet4 (attr : BitVec 20) (w1 : Word)                               -- COLOR_SET_4, R163
  | colorSet6 (attr : BitVec 20) (w1 : Word)                               -- COLOR_SET_6, R164
  | colorCommit (count modifier : Word)                                    -- COLOR_COMMIT, R165
  | colorRecall (count modifier : Word)                                    -- COLOR_RECALL, R166
  | texSet0 (attr : BitVec 20)                                             -- TEX_SET_0, R168
  | texSet2 (attr : BitVec 20)                                             -- TEX_SET_2, R169
  | texSet4 (attr : BitVec 20)                                             -- TEX_SET_4, R170
  | texCommit (attr : BitVec 20)                                           -- TEX_COMMIT, R171
  | texRecall (attr : BitVec 20)                                           -- TEX_RECALL, R172
  | mtxSet0 (index : BitVec 3) (mid sub : BitVec 2) (x y z : F32)          -- MTX_SET_0, R181
  | mtxSet1 (index : BitVec 3) (mid sub : BitVec 2) (x y z : F32)          -- MTX_SET_1, R182
  | mtxSet2 (index : BitVec 3) (mid sub : BitVec 2) (x y z : F32)          -- MTX_SET_2, R183
  | mtxSet3 (index : BitVec 3) (mid sub : BitVec 2) (x y z : F32)          -- MTX_SET_3, R184
  | mtxCommit (index : BitVec 3)                                           -- MTX_COMMIT, R185
  | vtx3f0 (x y z : F32)                                                   -- VTX3F_0, R198
  | vtx3f1 (x y z : F32)                                                   -- VTX3F_1, R199
  | vtx3f2 (x y z : F32)                                                   -- VTX3F_2, R200
  | vtx3f3 (x y z : F32)                                                   -- VTX3F_3, R201
  | vtxN0 (h0 h1 : Word) (x y z nx ny nz : F32)                            -- VTXN_0, R203
  | vtxN1 (h0 h1 : Word) (x y z nx ny nz : F32)                            -- VTXN_1, R204
  | vtxN2 (h0 h1 : Word) (x y z nx ny nz : F32)                            -- VTXN_2, R205
  | vtxN3 (h0 h1 : Word) (x y z nx ny nz : F32)                            -- VTXN_3, R206
  | vtxN4 (h0 h1 : Word) (x y z nx ny nz : F32)                            -- VTXN_4, R207
  | vtxN5 (h0 h1 : Word) (x y z nx ny nz : F32)                            -- VTXN_5, R208
  | vtxN6 (h0 h1 : Word) (x y z nx ny nz : F32)                            -- VTXN_6, R209
  | vtxN7 (h0 h1 : Word) (x y z nx ny nz : F32)                            -- VTXN_7, R210
  | texCoord0 (uv0 uv1 uv2 : Word)                                         -- TEXCOORD_0, R212
  | texCoord1 (uv0 uv1 uv2 : Word)                                         -- TEXCOORD_1, R213
  | diag101 (extra : List Word)                                            -- DIAG_101, R221
  | diag301 (extra : List Word)                                            -- DIAG_301, R222
  | diag501 (extra : List Word)                                            -- DIAG_501, R223
  | diag043 (extra : List Word)                                            -- DIAG_043, R224
  | diag901 (extra : List Word)                                            -- DIAG_901, R225
  | diag3A1 (extra : List Word)                                            -- DIAG_3A1, R226
  | diag5A1 (extra : List Word)                                            -- DIAG_5A1, R227
  | diag6D1 (extra : List Word)                                            -- DIAG_6D1, R228
  | diag181 (extra : List Word)                                            -- DIAG_181, R229
  | diag303 (extra : List Word)                                            -- DIAG_303, R230
  | diag104 (extra : List Word)                                            -- DIAG_104, R231
  | diag051 (extra : List Word)                                            -- DIAG_051, R232
  | diag006 (extra : List Word)                                            -- DIAG_006, R233
  | diag046 (extra : List Word)                                            -- DIAG_046, R234
  | diag451 (extra : List Word)                                            -- DIAG_451, R235
  | diag064 (extra : List Word)                                            -- DIAG_064, R236
  | diag561 (extra : List Word)                                            -- DIAG_561, R237
  | diagE88 (extra : List Word)                                            -- DIAG_E88, R238
  deriving DecidableEq, Repr

/-- The mnemonic of an instruction (R91). -/
def Instr.mnemonic : Instr → Mnemonic
  | .nop => .NOP
  | .jump _ => .JUMP
  | .call _ => .CALL
  | .ret => .RET
  | .kill => .KILL
  | .sync _ _ _ _ => .SYNC
  | .clearA _ => .CLEAR_A
  | .clearB _ => .CLEAR_B
  | .vpSet0 _ _ => .VP_SET_0
  | .vpSet1 _ _ => .VP_SET_1
  | .vpSet2 _ _ => .VP_SET_2
  | .vpSet3 _ _ => .VP_SET_3
  | .vpSet4 _ _ => .VP_SET_4
  | .vpSet5 _ _ => .VP_SET_5
  | .vpCommit _ => .VP_COMMIT
  | .vpRecall _ _ _ => .VP_RECALL
  | .colorSet0 _ _ => .COLOR_SET_0
  | .colorSet2 _ _ => .COLOR_SET_2
  | .colorSet4 _ _ => .COLOR_SET_4
  | .colorSet6 _ _ => .COLOR_SET_6
  | .colorCommit _ _ => .COLOR_COMMIT
  | .colorRecall _ _ => .COLOR_RECALL
  | .texSet0 _ => .TEX_SET_0
  | .texSet2 _ => .TEX_SET_2
  | .texSet4 _ => .TEX_SET_4
  | .texCommit _ => .TEX_COMMIT
  | .texRecall _ => .TEX_RECALL
  | .mtxSet0 _ _ _ _ _ _ => .MTX_SET_0
  | .mtxSet1 _ _ _ _ _ _ => .MTX_SET_1
  | .mtxSet2 _ _ _ _ _ _ => .MTX_SET_2
  | .mtxSet3 _ _ _ _ _ _ => .MTX_SET_3
  | .mtxCommit _ => .MTX_COMMIT
  | .vtx3f0 _ _ _ => .VTX3F_0
  | .vtx3f1 _ _ _ => .VTX3F_1
  | .vtx3f2 _ _ _ => .VTX3F_2
  | .vtx3f3 _ _ _ => .VTX3F_3
  | .vtxN0 _ _ _ _ _ _ _ _ => .VTXN_0
  | .vtxN1 _ _ _ _ _ _ _ _ => .VTXN_1
  | .vtxN2 _ _ _ _ _ _ _ _ => .VTXN_2
  | .vtxN3 _ _ _ _ _ _ _ _ => .VTXN_3
  | .vtxN4 _ _ _ _ _ _ _ _ => .VTXN_4
  | .vtxN5 _ _ _ _ _ _ _ _ => .VTXN_5
  | .vtxN6 _ _ _ _ _ _ _ _ => .VTXN_6
  | .vtxN7 _ _ _ _ _ _ _ _ => .VTXN_7
  | .texCoord0 _ _ _ => .TEXCOORD_0
  | .texCoord1 _ _ _ => .TEXCOORD_1
  | .diag101 _ => .DIAG_101
  | .diag301 _ => .DIAG_301
  | .diag501 _ => .DIAG_501
  | .diag043 _ => .DIAG_043
  | .diag901 _ => .DIAG_901
  | .diag3A1 _ => .DIAG_3A1
  | .diag5A1 _ => .DIAG_5A1
  | .diag6D1 _ => .DIAG_6D1
  | .diag181 _ => .DIAG_181
  | .diag303 _ => .DIAG_303
  | .diag104 _ => .DIAG_104
  | .diag051 _ => .DIAG_051
  | .diag006 _ => .DIAG_006
  | .diag046 _ => .DIAG_046
  | .diag451 _ => .DIAG_451
  | .diag064 _ => .DIAG_064
  | .diag561 _ => .DIAG_561
  | .diagE88 _ => .DIAG_E88

/-- The only instruction that returns `Terminal` is Kill (R107, R124). -/
def Instr.isTerminal (i : Instr) : Bool := decide (i = .kill)

end Sys2Proof
end

