-- ==== Sys2Proof/Machine/Encoding.lean ====
section
/-! DEFINITION. What the configuration says of an encoding: a mnemonic's opcode (R89, R91), length (R82, R91) and reserved
masks (R84), the unsigned sub-fields of rule R87, and the byte order of command RAM (R61). The decoder, the encoder, the
well-formedness checks and the meanings all read the configuration through these. -/

namespace Sys2Proof

/-! ## The opcode table -/

/-- A mnemonic's row of rule R91, counted from 0. -/
def Mnemonic.index : Mnemonic → Fin 64
  | .NOP => 0 | .JUMP => 1 | .CALL => 2 | .RET => 3 | .KILL => 4 | .SYNC => 5 | .CLEAR_A => 6 | .CLEAR_B => 7
  | .VP_SET_0 => 8 | .VP_SET_1 => 9 | .VP_SET_2 => 10 | .VP_SET_3 => 11 | .VP_SET_4 => 12 | .VP_SET_5 => 13
  | .VP_COMMIT => 14 | .VP_RECALL => 15
  | .COLOR_SET_0 => 16 | .COLOR_SET_2 => 17 | .COLOR_SET_4 => 18 | .COLOR_SET_6 => 19
  | .COLOR_COMMIT => 20 | .COLOR_RECALL => 21
  | .TEX_SET_0 => 22 | .TEX_SET_2 => 23 | .TEX_SET_4 => 24 | .TEX_COMMIT => 25 | .TEX_RECALL => 26
  | .MTX_SET_0 => 27 | .MTX_SET_1 => 28 | .MTX_SET_2 => 29 | .MTX_SET_3 => 30 | .MTX_COMMIT => 31
  | .VTX3F_0 => 32 | .VTX3F_1 => 33 | .VTX3F_2 => 34 | .VTX3F_3 => 35
  | .VTXN_0 => 36 | .VTXN_1 => 37 | .VTXN_2 => 38 | .VTXN_3 => 39
  | .VTXN_4 => 40 | .VTXN_5 => 41 | .VTXN_6 => 42 | .VTXN_7 => 43
  | .TEXCOORD_0 => 44 | .TEXCOORD_1 => 45
  | .DIAG_101 => 46 | .DIAG_301 => 47 | .DIAG_501 => 48 | .DIAG_043 => 49 | .DIAG_901 => 50 | .DIAG_3A1 => 51
  | .DIAG_5A1 => 52 | .DIAG_6D1 => 53 | .DIAG_181 => 54 | .DIAG_303 => 55 | .DIAG_104 => 56 | .DIAG_051 => 57
  | .DIAG_006 => 58 | .DIAG_046 => 59 | .DIAG_451 => 60 | .DIAG_064 => 61 | .DIAG_561 => 62 | .DIAG_E88 => 63

/-- Every mnemonic, in the order of rule R91. -/
def Mnemonic.all : List Mnemonic :=
  [.NOP, .JUMP, .CALL, .RET, .KILL, .SYNC, .CLEAR_A, .CLEAR_B,
   .VP_SET_0, .VP_SET_1, .VP_SET_2, .VP_SET_3, .VP_SET_4, .VP_SET_5, .VP_COMMIT, .VP_RECALL,
   .COLOR_SET_0, .COLOR_SET_2, .COLOR_SET_4, .COLOR_SET_6, .COLOR_COMMIT, .COLOR_RECALL,
   .TEX_SET_0, .TEX_SET_2, .TEX_SET_4, .TEX_COMMIT, .TEX_RECALL,
   .MTX_SET_0, .MTX_SET_1, .MTX_SET_2, .MTX_SET_3, .MTX_COMMIT,
   .VTX3F_0, .VTX3F_1, .VTX3F_2, .VTX3F_3,
   .VTXN_0, .VTXN_1, .VTXN_2, .VTXN_3, .VTXN_4, .VTXN_5, .VTXN_6, .VTXN_7,
   .TEXCOORD_0, .TEXCOORD_1,
   .DIAG_101, .DIAG_301, .DIAG_501, .DIAG_043, .DIAG_901, .DIAG_3A1, .DIAG_5A1, .DIAG_6D1, .DIAG_181,
   .DIAG_303, .DIAG_104, .DIAG_051, .DIAG_006, .DIAG_046, .DIAG_451, .DIAG_064, .DIAG_561, .DIAG_E88]

/-- The opcode values the source fixes: NOP is the all-zero opcode (R90), a diagnostic opcode is its own name read as
hexadecimal (R220). -/
def Mnemonic.fixedOpcode : Mnemonic → Option Opcode
  | .NOP => some 0x000
  | .DIAG_101 => some 0x101 | .DIAG_301 => some 0x301 | .DIAG_501 => some 0x501 | .DIAG_043 => some 0x043
  | .DIAG_901 => some 0x901 | .DIAG_3A1 => some 0x3A1 | .DIAG_5A1 => some 0x5A1 | .DIAG_6D1 => some 0x6D1
  | .DIAG_181 => some 0x181 | .DIAG_303 => some 0x303 | .DIAG_104 => some 0x104 | .DIAG_051 => some 0x051
  | .DIAG_006 => some 0x006 | .DIAG_046 => some 0x046 | .DIAG_451 => some 0x451 | .DIAG_064 => some 0x064
  | .DIAG_561 => some 0x561 | .DIAG_E88 => some 0xE88
  | _ => none

/-- `OPMAP[m]` (R9, R91). -/
def Cfg.opcode (c : Cfg) (m : Mnemonic) : Opcode :=
  match m.fixedOpcode with
  | some op => op
  | none => c.opmap.get m.index

/-- The mnemonic whose opcode a first word carries, if any: the opcode is `w0[11:0]` (R81, R89). -/
def Cfg.mnemonicOf (c : Cfg) (w0 : Word) : Option Mnemonic :=
  Mnemonic.all.find? fun m => decide (c.opcode m = w0.setWidth 12)

/-- A first word: the opcode, with `attr` above it (R81). -/
def Cfg.firstWord (c : Cfg) (m : Mnemonic) (attr : BitVec 20) : Word := attr ++ c.opcode m

/-! ## Lengths -/

/-- A format's length in words (R83). -/
def Format.words : Format → Nat
  | .f4 => 1 | .f8 => 2 | .f16 => 4 | .f32 => 8

/-- A format's length in bytes (R83). -/
def Format.bytes (f : Format) : Nat := 4 * f.words

/-- A Viewport Set's length as a format. -/
def VpFormat.format : VpFormat → Format
  | .f8 => .f8 | .f16 => .f16

/-- A diagnostic opcode's length as a format. -/
def DiagFormat.format : DiagFormat → Format
  | .f4 => .f4 | .f8 => .f8 | .f16 => .f16

/-- `LEN_DIAG` of the `k`-th diagnostic opcode in the order of rule R91. -/
def Cfg.diagFormat (c : Cfg) (k : Fin 18) : Format := (c.lenDiag.get k).format

/-- `LEN_VPSET[k]`. -/
def Cfg.vpSetFormat (c : Cfg) (k : Fin 6) : Format := (c.lenVpSet.get k).format

/-- `len(m)`: a function of the mnemonic alone (R82, R91). -/
def Cfg.format (c : Cfg) : Mnemonic → Format
  | .NOP => .f4 | .JUMP => .f8 | .CALL => .f8 | .RET => c.lenRet | .KILL => .f4 | .SYNC => .f4
  | .CLEAR_A => .f8 | .CLEAR_B => .f8
  | .VP_SET_0 => c.vpSetFormat 0 | .VP_SET_1 => c.vpSetFormat 1 | .VP_SET_2 => c.vpSetFormat 2
  | .VP_SET_3 => c.vpSetFormat 3 | .VP_SET_4 => c.vpSetFormat 4 | .VP_SET_5 => c.vpSetFormat 5
  | .VP_COMMIT => .f4 | .VP_RECALL => .f4
  | .COLOR_SET_0 => .f8 | .COLOR_SET_2 => .f8 | .COLOR_SET_4 => .f8 | .COLOR_SET_6 => .f8
  | .COLOR_COMMIT => .f4 | .COLOR_RECALL => .f4
  | .TEX_SET_0 => .f4 | .TEX_SET_2 => .f4 | .TEX_SET_4 => .f4 | .TEX_COMMIT => .f4 | .TEX_RECALL => .f4
  | .MTX_SET_0 => .f16 | .MTX_SET_1 => .f16 | .MTX_SET_2 => .f16 | .MTX_SET_3 => .f16 | .MTX_COMMIT => .f4
  | .VTX3F_0 => .f16 | .VTX3F_1 => .f16 | .VTX3F_2 => .f16 | .VTX3F_3 => .f16
  | .VTXN_0 => .f32 | .VTXN_1 => .f32 | .VTXN_2 => .f32 | .VTXN_3 => .f32
  | .VTXN_4 => .f32 | .VTXN_5 => .f32 | .VTXN_6 => .f32 | .VTXN_7 => .f32
  | .TEXCOORD_0 => .f16 | .TEXCOORD_1 => .f16
  | .DIAG_101 => c.diagFormat 0 | .DIAG_301 => c.diagFormat 1 | .DIAG_501 => c.diagFormat 2
  | .DIAG_043 => c.diagFormat 3 | .DIAG_901 => c.diagFormat 4 | .DIAG_3A1 => c.diagFormat 5
  | .DIAG_5A1 => c.diagFormat 6 | .DIAG_6D1 => c.diagFormat 7 | .DIAG_181 => c.diagFormat 8
  | .DIAG_303 => c.diagFormat 9 | .DIAG_104 => c.diagFormat 10 | .DIAG_051 => c.diagFormat 11
  | .DIAG_006 => c.diagFormat 12 | .DIAG_046 => c.diagFormat 13 | .DIAG_451 => c.diagFormat 14
  | .DIAG_064 => c.diagFormat 15 | .DIAG_561 => c.diagFormat 16 | .DIAG_E88 => c.diagFormat 17

/-! ## Reserved bits -/

/-- Whether word `j` of `m` is a binary32 value, whose reserved mask is 0 (R84, R202; for a UV-pair word, under the default
`UV_DECODE` only, R212). -/
def Cfg.isFloatWord (c : Cfg) (m : Mnemonic) (j : Nat) : Bool :=
  match m with
  | .MTX_SET_0 | .MTX_SET_1 | .MTX_SET_2 | .MTX_SET_3
  | .VTX3F_0 | .VTX3F_1 | .VTX3F_2 | .VTX3F_3 => decide (1 ≤ j)
  | .VTXN_0 | .VTXN_1 | .VTXN_2 | .VTXN_3
  | .VTXN_4 | .VTXN_5 | .VTXN_6 | .VTXN_7 => decide (2 ≤ j)
  | .TEXCOORD_0 | .TEXCOORD_1 => decide (1 ≤ j) && decide (c.uvDecode = .halfwords)
  | _ => false

/-- `RSV[m][j]` (R84), with NOP's fixed mask (R90). -/
def Cfg.reserved (c : Cfg) (m : Mnemonic) (j : Nat) : Word :=
  if m = .NOP then 0xFFFFF000
  else if c.isFloatWord m j then 0
  else (c.rsv.get m.index).getD j 0

/-- The first word of an instruction that has a reserved bit set, with its index counted from `j` (R105). -/
def Cfg.firstReserved (c : Cfg) (m : Mnemonic) : Nat → List Word → Option (Nat × Word)
  | _, [] => none
  | j, w :: ws => if w &&& c.reserved m j = 0 then c.firstReserved m (j + 1) ws else some (j, w)

/-! ## Sub-fields (R87) -/

/-- The number of bits of a field. -/
def Field.width (f : Field) : Nat := f.hi - f.lo + 1

/-- A field's bits as a mask of its word. -/
def Field.mask (f : Field) : Word := BitVec.ofNat 32 (2 ^ f.width - 1) <<< f.lo

/-- `fld`: the zero-extended slice `w[word][hi:lo]`. -/
def Field.get (f : Field) (ws : List Word) : Word :=
  (ws.getD f.word 0 >>> f.lo) &&& BitVec.ofNat 32 (2 ^ f.width - 1)

/-- The bits of word `j` that give the field the value `v`. -/
def Field.place (f : Field) (j : Nat) (v : Word) : Word :=
  if f.word = j then v <<< f.lo else 0

/-- Whether `v` fits the field. -/
def Field.fits (f : Field) (v : Word) : Bool := decide (v.toNat < 2 ^ f.width)

/-- Whether two fields share no bit. -/
def Field.disjoint (f g : Field) : Bool := decide (f.word ≠ g.word) || decide (f.mask &&& g.mask = 0)

/-! ## Byte order of command RAM (R61) -/

/-- The word that four bytes at rising addresses make. -/
def Endian.join : Endian → (b0 b1 b2 b3 : Byte) → Word
  | .little, b0, b1, b2, b3 => b3 ++ b2 ++ b1 ++ b0
  | .big, b0, b1, b2, b3 => b0 ++ b1 ++ b2 ++ b3

/-- The byte of `w` that lies at offset `j` (0 to 3) of its four bytes. -/
def Endian.byteOf : Endian → (w : Word) → (j : Nat) → Byte
  | .little, w, j => w.extractLsb' (8 * j) 8
  | .big, w, j => w.extractLsb' (8 * (3 - j)) 8

end Sys2Proof
end

