-- ==== Sys2Proof/Machine/State.lean ====
section
/-! DEFINITION. The machine's state as plain data: the `Device` record of 10_state.md, command RAM, the configuration, and
what the model itself needs (the Exec in progress, the host's operations and their results, the counter of draws). -/

namespace Sys2Proof.Machine

/-! ## Faults of the device (R290) -/

/-- The table categories of rule R42. -/
inductive Category where
  | viewport | modelview | material | texhead | light | lightset
  deriving DecidableEq, Repr

/-- The fields that an instruction's own check names (R290 `BadField`). -/
inductive FieldName where
  /-- VP_COMMIT's `n` (R150). -/
  | n
  /-- SYNC's four fields, packed `s3 ++ s2 ++ s1 ++ s0` (R125). -/
  | s0123
  deriving DecidableEq, Repr

/-- `FaultReason` (R290): the value recorded in `fault`, with the fields the table of R290 gives each reason. -/
inductive FaultReason where
  | reservedBits (m : Mnemonic) (j : Nat) (wj pc : Word)
  | badField (m : Mnemonic) (f : FieldName) (v pc : Word)
  | indexOutOfRange (cat : Category) (i : Nat)
  | targetOutOfWindow (m : Mnemonic) (target pc : Word)
  | pcOutOfWindow (pc : Word)
  | spOutOfWindow (p : Fin 2) (sp : Word)
  | fetchOutOfWindow (pc : Word) (m : Mnemonic)
  | idmaBadMarker (a : Word)
  | idmaMisaligned (a : Word)
  | badSegaId (v : Word)
  | emptyRingSlot (slot : Fin 3) (pc : Word)
  | unknownOpcode (pc w0 : Word)
  deriving DecidableEq, Repr

/-! ## Records (R42 to R50) -/

/-- Three binary32 bit patterns: a position or a matrix row. -/
structure Vec3 where
  x : F32
  y : F32
  z : F32
  deriving DecidableEq, Repr

/-- A texture coordinate (R194). -/
structure UV where
  u : F32
  v : F32
  deriving DecidableEq, Repr

/-- One (position, uv) pair of a triangle (R192). -/
structure Vertex where
  pos : Vec3
  uv  : UV
  deriving DecidableEq, Repr

/-- A triangle handed to the rasterizer, most recent position first (R192, R196). -/
structure Triangle where
  v0 : Vertex
  v1 : Vertex
  v2 : Vertex
  deriving DecidableEq, Repr

/-- One part of a record whose bit layout the spec does not give: nothing yet, or raw words (R43, I38). -/
abbrev Part := Option (List Word)

/-- A viewport: one part per Viewport Set opcode (R43). -/
abbrev Viewport := Vector Part 6

/-- A modelview: four rows of three binary32 values (R44). -/
abbrev Modelview := Vector (Option Vec3) 4

/-- A material (R45). -/
structure Material where
  color0   : Part
  color1   : Part
  specular : Part
  modes    : Part
  deriving DecidableEq, Repr

/-- A texture header (R46). -/
structure Texhead where
  slot   : Part
  format : Part
  wrap   : Part
  mipmap : Part
  deriving DecidableEq, Repr

/-- A light (R47). -/
structure Light where
  emission : Part
  color0   : Part
  color1   : Part
  deriving DecidableEq, Repr

/-- A lightset: up to four references into the light table, and a 4-bit enable mask (R48). -/
structure Lightset where
  light0 : Option (Fin 1024)
  light1 : Option (Fin 1024)
  light2 : Option (Fin 1024)
  light3 : Option (Fin 1024)
  enable : Option (BitVec 4)
  deriving DecidableEq, Repr

/-- A slot of a state table (R42). -/
structure Slot (α : Type) where
  committed : Bool
  value     : Option α
  deriving DecidableEq, Repr

/-- A slot nothing has been committed to since the last reset (R42). -/
def Slot.empty {α : Type} : Slot α := ⟨false, none⟩

/-- A state table: the slots that differ from `Slot.empty`, at rising indices. -/
abbrev Table (α : Type) := List (Nat × Slot α)

/-- A register block's storage: the words that differ from the reset value 0, at rising offsets (R28). -/
abbrev RegBlock := List (Nat × Word)

/-- Command RAM: the bytes written since power-up, at rising storage locations (R60). A location that is not listed holds
no value the model knows: reading it gives a free value. -/
abbrev Memory := List Host.Cell

/-! ## The host (R8, R250) -/

/-- The granularities of the host's access to command RAM (R264). -/
inductive CramWidth where
  | one | two | four
  deriving DecidableEq, Repr

/-- The host operations of rule R250. -/
inductive HostOp where
  | exec (cycles : Nat)
  | regRead (addr : Word) (n : Nat)
  | regWrite (addr : Word) (n : Nat) (v : Word)
  | reset
  | setParity (p : Fin 2)
  | cramRead (a : Word) (n : CramWidth)
  | cramWrite (a : Word) (n : CramWidth) (v : Word)
  deriving DecidableEq, Repr

/-- What a host operation returns (R250 to R252). -/
inductive HostResult where
  /-- The operation ended and has no result. -/
  | done
  /-- A register write took effect or was ignored. -/
  | ok
  /-- The word read. -/
  | value (v : Word)
  /-- The non-fatal bus signal of rule R293. -/
  | invalidAccess
  /-- The device has faulted (R294). -/
  | faulted
  deriving DecidableEq, Repr

/-! ## Outcomes that are not a next state -/

/-- Why a step stops with a fault of the model. A ProtocolFault or an UnknownOpcode is none of these: the spec says what it
does (R294), and it is a next state whose `fault` is set. -/
inductive Fault where
  /-- Raised by a step whose host operation is a CramRead or CramWrite at an address that is no multiple of its width, which
  rule R264 calls no legal host operation. Safe: the model stops where the spec gives no effect. -/
  | illegalCramAccess (a : Word) (n : CramWidth)
  deriving DecidableEq, Repr

/-- Why an instruction is refused. -/
inductive Refusal where
  /-- Raised by an arm of `exec` for an instruction that has no meaning yet; no arm raises it now. Safe. -/
  | notModelled (mnemonic : String)
  deriving DecidableEq, Repr

/-! ## The state -/

/-- The whole device (10_state.md section 1), its environment, and the model's own fields. -/
structure State where
  /-- The configuration record of rule R9; no step changes it. -/
  cfg : Cfg
  /-- The program counter (R22). -/
  pc : Word
  /-- The two stack pointers, one per frame parity (R23). -/
  sp : Vector Word 2
  /-- Whether the CP runs (R25). -/
  running : Bool
  /-- The frame parity, which selects the active stack pointer (R24). -/
  parity : Fin 2
  /-- The sticky fault (R27). -/
  fault : Option FaultReason
  /-- Block 15: main control, IRQ mask and status, seeds, IDMA registers (R28 to R30, R34 to R37). -/
  reg15 : RegBlock
  /-- Block 18's declared storage (R28, R40). -/
  reg18 : RegBlock
  /-- Block 1A: display, causes, busy/control, texture units, FIFO (R28, R31, R38, R41). -/
  reg1A : RegBlock
  /-- The aggregated secondary status (R32). -/
  secStatus : BitVec 4
  /-- The level of the host interrupt line (R33). -/
  irqLine : Bool
  /-- The viewport scratch (R43). -/
  vpScratch : Viewport
  /-- The viewport table, 8 slots (R42, R43). -/
  viewports : Table Viewport
  /-- The modelview scratch (R44). -/
  mvScratch : Modelview
  /-- The modelview table, 256 slots (R42, R44). -/
  modelviews : Table Modelview
  /-- The material scratch (R45). -/
  matScratch : Material
  /-- The material table, 16384 slots (R42, R45). -/
  materials : Table Material
  /-- The texhead scratch (R46). -/
  thScratch : Texhead
  /-- The texhead table, 16384 slots (R42, R46). -/
  texheads : Table Texhead
  /-- The light scratch (R47). -/
  ltScratch : Light
  /-- The light table, 1024 slots (R42, R47). -/
  lights : Table Light
  /-- The lightset scratch (R48). -/
  lsScratch : Lightset
  /-- The lightset table, 256 slots (R42, R48). -/
  lightsets : Table Lightset
  /-- The vertex ring (R49). -/
  ring : Vector (Option Vec3) 3
  /-- The ring's write cursor (R49). -/
  cursor : Fin 3
  /-- The triangles handed to the rasterizer, oldest first (R50). -/
  triOut : List Triangle
  /-- Command RAM (R60). -/
  cram : Memory
  /-- The model's own: the name of this power-up, which fixes what unwritten bytes hold (R60). -/
  powerUp : Nat
  /-- The model's own: how many draws the run has made. -/
  draws : Nat
  /-- The per-Exec budget (R26): what is left of the Exec in progress, `none` between host operations. -/
  budget : Option Nat
  /-- The model's own: the host's operations still to come, in the host's order (R8, R250). -/
  inputs : List HostOp
  /-- The model's own: the results of the host operations that ended, oldest first (R250). -/
  results : List HostResult
  deriving DecidableEq, Repr

/-- A viewport scratch with no part set (R42). -/
def emptyViewport : Viewport := #v[none, none, none, none, none, none]
/-- A modelview scratch with no row set (R42). -/
def emptyModelview : Modelview := #v[none, none, none, none]
/-- A material scratch with no field set (R42). -/
def emptyMaterial : Material := ⟨none, none, none, none⟩
/-- A texhead scratch with no field set (R42). -/
def emptyTexhead : Texhead := ⟨none, none, none, none⟩
/-- A light scratch with no field set (R42). -/
def emptyLight : Light := ⟨none, none, none⟩
/-- A lightset scratch with no field set (R42). -/
def emptyLightset : Lightset := ⟨none, none, none, none, none⟩
/-- An empty vertex ring (R195). -/
def emptyRing : Vector (Option Vec3) 3 := #v[none, none, none]

/-- The machine at power-up, which is the state after `Reset` with no fault, no triangle and no byte of command RAM written
(R320, R321). The configuration is EXCFG (DESIGN CHOICE, log entry 1); no host operation is waiting. -/
def State.reset : State where
  cfg := Config.excfg
  pc := 0
  sp := #v[0, 0]
  running := false
  parity := 0
  fault := none
  reg15 := []
  reg18 := []
  reg1A := []
  secStatus := 0
  irqLine := false
  vpScratch := emptyViewport
  viewports := []
  mvScratch := emptyModelview
  modelviews := []
  matScratch := emptyMaterial
  materials := []
  thScratch := emptyTexhead
  texheads := []
  ltScratch := emptyLight
  lights := []
  lsScratch := emptyLightset
  lightsets := []
  ring := emptyRing
  cursor := 0
  triOut := []
  cram := []
  powerUp := 0
  draws := 0
  budget := none
  inputs := []
  results := []

end Sys2Proof.Machine
end

