-- ==== Sys2Proof/Machine/Ops.lean ====
section
/-! DEFINITION. The named operations over the state: canonical lists, command RAM (R60, R61), register storage (R12, R28),
state tables (R140 to R142), the windows (R63), raising a fault (R294), advancing the pc (R104), and the stack pointers
(R122, R123). There is no return from an exception (R303): a fault is never taken back (R294). -/

namespace Sys2Proof.Machine

/-! ## Lists of (key, value) pairs at rising keys -/

/-- The value listed at a key. -/
def lookupKey {β : Type} : List (Nat × β) → Nat → Option β
  | [], _ => none
  | (k, v) :: t, a => if k = a then some v else lookupKey t a

/-- Lists `v` at key `a`, in place of what was listed there. -/
def putKey {β : Type} : List (Nat × β) → Nat → β → List (Nat × β)
  | [], a, v => [(a, v)]
  | (k, w) :: t, a, v =>
    if a < k then (a, v) :: (k, w) :: t
    else if a = k then (a, v) :: t
    else (k, w) :: putKey t a v

/-- Lists nothing at key `a`. -/
def dropKey {β : Type} (l : List (Nat × β)) (a : Nat) : List (Nat × β) := l.filter fun p => decide (p.1 ≠ a)

/-- The keys are strictly rising. -/
abbrev RisingKeys {β : Type} (l : List (Nat × β)) : Prop := (l.map Prod.fst).Pairwise (· < ·)

/-! ## Command RAM (R60, R61, R264) -/

/-- The canonical form of command RAM: strictly rising locations. An unlisted location has no value of its own, so no entry
can repeat it. -/
abbrev Memory.wf (m : Memory) : Prop := RisingKeys m

/-- `CRAM_CANON`: the storage location of an address (R60). -/
def storageLoc (c : Cfg) (a : Word) : Nat :=
  match c.cramCanon with
  | .identity => a.toNat
  | .other k => Config.otherCanon k a

/-- The byte stored at a location: the last one written, or, if none was since power-up, a free value (R60). -/
def State.byteAt (s : State) (loc : Nat) : Byte :=
  match lookupKey s.cram loc with
  | some b => b
  | none => Config.powerUpByte s.powerUp loc

/-- The byte of command RAM at an address. -/
def State.readByte (s : State) (a : Word) : Byte := s.byteAt (storageLoc s.cfg a)

/-- Command RAM after a byte is stored at an address. -/
def storeByte (c : Cfg) (m : Memory) (a : Word) (b : Byte) : Memory := putKey m (storageLoc c a) b

/-- `MemRead(a, 4)` (R60, R61). -/
def memRead (s : State) (a : Word) : Word :=
  s.cfg.cramEndian.join (s.readByte a) (s.readByte (a + 1)) (s.readByte (a + 2)) (s.readByte (a + 3))

/-- Command RAM after the four bytes of `v` are stored at `a .. a+3`. Where `CRAM_CANON` maps two of the four addresses to one
location, the byte of the higher address stays: DESIGN CHOICE (log entry 18), since R60 and R67 give no order inside a write. -/
def storeWord (c : Cfg) (m : Memory) (a v : Word) : Memory :=
  storeByte c (storeByte c (storeByte c (storeByte c m a (c.cramEndian.byteOf v 0))
    (a + 1) (c.cramEndian.byteOf v 1)) (a + 2) (c.cramEndian.byteOf v 2)) (a + 3) (c.cramEndian.byteOf v 3)

/-- `MemWrite(a, 4, v)` (R60, R61). -/
def memWrite (a v : Word) (s : State) : State := { s with cram := storeWord s.cfg s.cram a v }

/-! ## Register storage (R12, R28) -/

/-- The canonical form of a register block: rising offsets, and no word equal to the reset value 0. -/
abbrev RegBlock.wf (l : RegBlock) : Prop := RisingKeys l ∧ ∀ p ∈ l, p.2 ≠ 0

/-- The stored word at an offset; every block reads 0 after reset (R28). -/
def RegBlock.get (l : RegBlock) (o : Nat) : Word := (lookupKey l o).getD 0

/-- Stores a word at an offset, in canonical form. -/
def RegBlock.set (l : RegBlock) (o : Nat) (v : Word) : RegBlock := if v = 0 then dropKey l o else putKey l o v

/-- `Regb[o]` (R12). -/
def State.reg (s : State) (b : Block) (o : Nat) : Word :=
  match b with
  | .b15 => s.reg15.get o
  | .b18 => s.reg18.get o
  | .b1A => s.reg1A.get o

/-- `Regb[o] <- v` (R12): the storage alone, with no side effect of a host write. -/
def setReg (b : Block) (o : Nat) (v : Word) (s : State) : State :=
  { s with
    reg15 := if b = .b15 then s.reg15.set o v else s.reg15
    reg18 := if b = .b18 then s.reg18.set o v else s.reg18
    reg1A := if b = .b1A then s.reg1A.set o v else s.reg1A }

/-- `Regb[o] <- Regb[o] & ~mask` (R107, R251). -/
def clearBits (r : RegBits) (s : State) : State := setReg r.block r.offset (s.reg r.block r.offset &&& ~~~r.mask) s

/-! ## Windows (R63, R69, R102, R106) -/

/-- Whether an address lies in the 4 MiB window at `base`. -/
def inWindow (base a : Word) : Bool := decide (base.toNat ≤ a.toNat) && decide (a.toNat < base.toNat + Config.winSize)

/-- Whether an address lies in `W_J` (R63). -/
def inWj (a : Word) : Bool := inWindow Config.wjBase a

/-- Whether an address lies in `W_C` (R63). -/
def inWc (c : Cfg) (a : Word) : Bool := inWindow c.wcBase a

/-- `inWin(a)` (R12, R63). -/
def inWin (c : Cfg) (a : Word) : Bool := inWj a || inWc c a

/-- `sameWin(a, b)` (R102). -/
def sameWin (c : Cfg) (a b : Word) : Bool := (inWj a && inWj b) || (inWc c a && inWc c b)

/-- The `[1:0] = 0` of R106 and R281. -/
def aligned4 (a : Word) : Bool := decide (a &&& 3 = 0)

/-- What R106 asks of `pc` and of each stack pointer. -/
def codeAddress (c : Cfg) (a : Word) : Bool := inWin c a && aligned4 a

/-! ## Faults (R290 to R295) -/

/-- `raise F(info)` (R294): the first fault is recorded and stays; what was done before it stays too. The rule that raises
ends there, which its meaning says by doing nothing more. -/
def raise (r : FaultReason) (s : State) : State := { s with fault := s.fault <|> some r }

/-- The first of the checks of `CheckInvariant()` that fails (R106, R295). -/
def invariantFault (s : State) : Option FaultReason :=
  if !codeAddress s.cfg s.pc then some (.pcOutOfWindow s.pc)
  else if !codeAddress s.cfg (s.sp.get 0) then some (.spOutOfWindow 0 (s.sp.get 0))
  else if !codeAddress s.cfg (s.sp.get 1) then some (.spOutOfWindow 1 (s.sp.get 1))
  else none

/-- `CheckInvariant()` (R106). -/
def checkInvariant (s : State) : State :=
  match invariantFault s with
  | some r => raise r s
  | none => s

/-- Whether a reason is a ProtocolFault; `unknownOpcode` is the other kind (R290). -/
def FaultReason.isProtocolFault : FaultReason → Bool
  | .unknownOpcode _ _ => false
  | _ => true

/-! ## The pc and the stacks (R104, R122, R123) -/

/-- `pc <- t`. -/
def setPc (t : Word) (s : State) : State := { s with pc := t }

/-- `pc <- pc + len(m)` (R104). -/
def advance (m : Mnemonic) (s : State) : State := setPc (s.pc + BitVec.ofNat 32 (s.cfg.format m).bytes) s

/-- The active stack pointer, `sp[parity]` (R23). -/
def State.activeSp (s : State) : Word := s.sp.get s.parity

/-- `sp[p] <- v` for the active parity; the other stack pointer stays. -/
def setActiveSp (v : Word) (s : State) : State := { s with sp := s.sp.set s.parity v }

/-- A stack pointer one word lower: bits 23:0 wrap, bits 31:24 stay (R122). -/
def spDown (a : Word) : Word := (a &&& 0xFF000000) ||| ((a - 4) &&& 0x00FFFFFF)

/-- A stack pointer one word higher: bits 23:0 wrap, bits 31:24 stay (R123). -/
def spUp (a : Word) : Word := (a &&& 0xFF000000) ||| ((a + 4) &&& 0x00FFFFFF)

/-! ## The state-table manager (R42, R140 to R142) -/

/-- The slot of a table; one that is not listed is empty (R42). -/
def Table.get {α : Type} (t : Table α) (i : Nat) : Slot α := (lookupKey t i).getD Slot.empty

/-- Writes a slot. -/
def Table.put {α : Type} (t : Table α) (i : Nat) (v : Slot α) : Table α := putKey t i v

/-- The canonical form of a table with `n` slots: rising indices below `n`, and every listed slot committed (an empty slot
is not listed). -/
abbrev Table.wf {α : Type} (n : Nat) (t : Table α) : Prop :=
  RisingKeys t ∧ ∀ p ∈ t, p.1 < n ∧ p.2.committed = true

/-- The bound `N[cat]` of a table (R9, R42). -/
def Category.bound : Category → Nat
  | .viewport => 8
  | .modelview => 256
  | .material => 16384
  | .texhead => 16384
  | .light => 1024
  | .lightset => 256

/-- `SetScratch(Viewport, k, words)` (R140, R143). -/
def setVpPart (k : Fin 6) (ws : List Word) (s : State) : State := { s with vpScratch := s.vpScratch.set k (some ws) }

/-- `SetScratch(Modelview, r, row)` (R140, R180). -/
def setMvRow (r : Fin 4) (row : Vec3) (s : State) : State := { s with mvScratch := s.mvScratch.set r (some row) }

/-- The slot that a commit of scratch `v` makes: a copy, marked committed (R141). -/
def committedSlot {α : Type} (v : α) : Slot α := ⟨true, some v⟩

/-- The copy that `Commit(cat, i)` makes, its index within the bound (R141). -/
def commitInBounds (cat : Category) (i : Nat) (s : State) : State :=
  match cat with
  | .viewport => { s with viewports := Table.put s.viewports i (committedSlot s.vpScratch) }
  | .modelview => { s with modelviews := Table.put s.modelviews i (committedSlot s.mvScratch) }
  | .material => { s with materials := Table.put s.materials i (committedSlot s.matScratch) }
  | .texhead => { s with texheads := Table.put s.texheads i (committedSlot s.thScratch) }
  | .light => { s with lights := Table.put s.lights i (committedSlot s.ltScratch) }
  | .lightset => { s with lightsets := Table.put s.lightsets i (committedSlot s.lsScratch) }

/-- `Commit(cat, i)` (R141): an index outside the table is fatal. -/
def commit (cat : Category) (i : Nat) (s : State) : Except FaultReason State :=
  if i < cat.bound then .ok (commitInBounds cat i s) else .error (.indexOutOfRange cat i)

/-- `Recall(cat, i)` (R142): no effect; it reads no slot, so no index is asked for. -/
def recallSlot (_cat : Category) (s : State) : State := s

end Sys2Proof.Machine
end

