-- ==== Sys2Proof/Machine/Color.lean ====
section
/-! DEFINITION. The color instructions (43_color_texture.md, R160 to R166): no state but `pc` changes in this baseline. -/

namespace Sys2Proof.Machine

/-- `ColorSet(k)` (R160): the material scratch is not written. -/
def colorSet (m : Mnemonic) (s : State) : Host.Outcome State Fault Refusal := .next (advance m s)

/-- COLOR_SET_0 (R161). -/
def execColorSet0 (_attr : BitVec 20) (_w1 : Word) (s : State) : Host.Outcome State Fault Refusal := colorSet .COLOR_SET_0 s

/-- COLOR_SET_2 (R162). -/
def execColorSet2 (_attr : BitVec 20) (_w1 : Word) (s : State) : Host.Outcome State Fault Refusal := colorSet .COLOR_SET_2 s

/-- COLOR_SET_4 (R163). -/
def execColorSet4 (_attr : BitVec 20) (_w1 : Word) (s : State) : Host.Outcome State Fault Refusal := colorSet .COLOR_SET_4 s

/-- COLOR_SET_6 (R164). -/
def execColorSet6 (_attr : BitVec 20) (_w1 : Word) (s : State) : Host.Outcome State Fault Refusal := colorSet .COLOR_SET_6 s

/-- COLOR_COMMIT (R165): no material slot is written. -/
def execColorCommit (_count _modifier : Word) (s : State) : Host.Outcome State Fault Refusal :=
  .next (advance .COLOR_COMMIT s)

/-- COLOR_RECALL (R166, R142). -/
def execColorRecall (_count _modifier : Word) (s : State) : Host.Outcome State Fault Refusal :=
  .next (advance .COLOR_RECALL (recallSlot .material s))

end Sys2Proof.Machine
end

