-- ==== Sys2Proof/Machine/Float.lean ====
section
/-! DEFINITION. IEEE-754 binary32 division and addition, round-to-nearest-even, no flush of subnormals (R190, R193), and the
exact conversion of an unsigned 16-bit integer (R194). Values are bit patterns; a result that is a NaN is `none`, since
its payload and sign are a draw (R193). The magnitude of a finite value is an exact count of units of 2^-149. -/

namespace Sys2Proof.Machine

/-- The sign bit (bit 31). -/
def f32Sign (w : F32) : Bool := w.getLsbD 31
/-- The biased exponent (bits 30:23). -/
def f32Exp (w : F32) : Nat := (w.extractLsb' 23 8).toNat
/-- The fraction (bits 22:0). -/
def f32Frac (w : F32) : Nat := (w.extractLsb' 0 23).toNat

/-- Whether a bit pattern is a NaN. -/
def f32IsNaN (w : F32) : Bool := decide (f32Exp w = 255) && decide (f32Frac w ≠ 0)
/-- Whether a bit pattern is an infinity. -/
def f32IsInf (w : F32) : Bool := decide (f32Exp w = 255) && decide (f32Frac w = 0)

/-- The magnitude of a finite value in units of 2^-149. -/
def f32Units (w : F32) : Nat :=
  if f32Exp w = 0 then f32Frac w else (2 ^ 23 + f32Frac w) * 2 ^ (f32Exp w - 1)

/-- A signed pattern from a sign and the low 31 bits. -/
def f32Pack (neg : Bool) (mag : Nat) : F32 := BitVec.ofNat 32 ((if neg then 2 ^ 31 else 0) + mag)

/-- The low 31 bits of infinity. -/
def f32InfBits : Nat := 0x7F800000

/-- The quotient `num / den` rounded to the nearest integer, ties to even. -/
def roundDivEven (num den : Nat) : Nat :=
  let q := num / den
  let r := num % den
  if 2 * r < den then q
  else if den < 2 * r then q + 1
  else if q % 2 = 0 then q else q + 1

/-- The low 31 bits of the binary32 value nearest to `num / den` units of 2^-149, ties to even: the unit in the last place is
2^-149 times `2^e`, and a carry out of the significand moves on into the exponent. -/
def roundUnits (num den : Nat) : Nat :=
  let e := Nat.log2 (num / den) - 23
  let bits := e * 2 ^ 23 + roundDivEven num (den * 2 ^ e)
  if f32InfBits ≤ bits then f32InfBits else bits

/-- IEEE-754 binary32 division (R193). -/
def ieeeDiv (a b : F32) : Option F32 :=
  let neg := f32Sign a != f32Sign b
  if f32IsNaN a || f32IsNaN b then none
  else if f32IsInf a then (if f32IsInf b then none else some (f32Pack neg f32InfBits))
  else if f32IsInf b then some (f32Pack neg 0)
  else if f32Units b = 0 then (if f32Units a = 0 then none else some (f32Pack neg f32InfBits))
  else some (f32Pack neg (roundUnits (f32Units a * 2 ^ 149) (f32Units b)))

/-- IEEE-754 binary32 addition (R193). A zero sum of values of opposite sign is `+0`, as round-to-nearest gives it. -/
def ieeeAdd (a b : F32) : Option F32 :=
  let sa := f32Sign a
  let sb := f32Sign b
  let ua := f32Units a
  let ub := f32Units b
  if f32IsNaN a || f32IsNaN b then none
  else if f32IsInf a then (if f32IsInf b && sa != sb then none else some a)
  else if f32IsInf b then some b
  else if sa = sb then some (f32Pack sa (roundUnits (ua + ub) 1))
  else if ub < ua then some (f32Pack sa (roundUnits (ua - ub) 1))
  else if ua < ub then some (f32Pack sb (roundUnits (ub - ua) 1))
  else some (f32Pack false 0)

/-- `FDIV32` (R9, R193). -/
def fdiv32 (c : Cfg) (a b : F32) : Option F32 :=
  match c.arith with
  | .ieee754 => ieeeDiv a b
  | .other k => some (Config.otherFdiv k a b)

/-- `FADD32` (R9, R193). -/
def fadd32 (c : Cfg) (a b : F32) : Option F32 :=
  match c.arith with
  | .ieee754 => ieeeAdd a b
  | .other k => some (Config.otherFadd k a b)

/-- The NaN that a drawn word names: its sign and its payload, any NaN there is (R193). -/
def drawnNaN (d : Word) : F32 :=
  let frac := d.extractLsb' 0 23
  BitVec.ofBool d.msb ++ (0xFF : BitVec 8) ++ (if frac = 0 then 1 else frac)

/-- The stored value of a result: itself, or, for a NaN, the NaN that draw `n` names. -/
def settleF32 (n : Nat) (r : Option F32) : F32 :=
  match r with
  | some v => v
  | none => drawnNaN (Config.draw n)

/-- `toF32(n)`: the exact binary32 value of an unsigned integer below 2^16 (R194). -/
def f32OfHalf (h : BitVec 16) : F32 := f32Pack false (roundUnits (h.toNat * 2 ^ 149) 1)

/-- `640.0` (R191). -/
def f32_640 : F32 := 0x44200000
/-- `480.0` (R191). -/
def f32_480 : F32 := 0x43F00000
/-- `1.0` (R191). -/
def f32_1 : F32 := 0x3F800000
/-- `256.0` (R192). -/
def f32_256 : F32 := 0x43800000

end Sys2Proof.Machine
end

