-- ==== Sys2Proof/Machine/Operands.lean ====
section
/-! DEFINITION. The operand forms of the instructions: the target of Jump and Call (R85), the whole-word binary32 operands
(R86), the UV pairs of Tex Coord (R88, R194), the packed fields of Sync (R87, R125), and the stored words of a Viewport Set
(R143). The sub-fields themselves are read by the decoder (`Field.get`, R87). -/

namespace Sys2Proof.Machine

/-- The target of Jump and Call: the operand word times four, modulo 2^32 (R85). -/
def targetOf (w1 : Word) : Word := w1 <<< 2

/-- Three operand words as binary32 values, unconverted (R86). -/
def vec3Of (x y z : Word) : Vec3 := ⟨x, y, z⟩

/-- `UV_DECODE` of a UV-pair word (R88, R194). -/
def uvDecode (c : Cfg) (w : Word) : UV :=
  match c.uvDecode with
  | .halfwords => ⟨f32OfHalf (w.extractLsb' 0 16), f32OfHalf (w.extractLsb' 16 16)⟩
  | .other k => ⟨(Config.otherUvDecode k w).1, (Config.otherUvDecode k w).2⟩

/-- Sync's four fields as one value, `s0` lowest (R125). -/
def syncFields (s0 s1 s2 s3 : BitVec 2) : BitVec 8 := s3 ++ s2 ++ s1 ++ s0

/-- `SYNC_VALID` (R9, R125). -/
def syncValid (c : Cfg) (s0 s1 s2 s3 : BitVec 2) : Bool := !c.syncIllegal.contains (syncFields s0 s1 s2 s3)

/-- Clear's sub-fields of `w1` (R87, R126): nothing in the block reads them. -/
def clearSubfields (fs : List Field) (w1 : Word) : List Word := fs.map fun f => f.get [0, w1]

/-- The words a Viewport Set stores: `w0` and every word after it (R143). -/
def vpWords (c : Cfg) (m : Mnemonic) (attr : BitVec 20) (ws : List Word) : List Word := c.firstWord m attr :: ws

end Sys2Proof.Machine
end

