-- ==== Sys2Proof/Machine/Control.lean ====
section
/-! DEFINITION. The control instructions (41_control.md, R120 to R127): each is the `Execute(m, w)` arm of rule R102, which
has fetched the words and checked the reserved bits before, and checks the invariant after. -/

namespace Sys2Proof.Machine

/-- NOP (R120). -/
def execNop (s : State) : Host.Outcome State Fault Refusal := .next (advance .NOP s)

/-- JUMP (R121): the target must lie in `W_J`. -/
def execJump (w1 : Word) (s : State) : Host.Outcome State Fault Refusal :=
  if inWj (targetOf w1) then .next (setPc (targetOf w1) s)
  else .next (raise (.targetOutOfWindow .JUMP (targetOf w1) s.pc) s)

/-- The push of CALL (R122): the address of the CALL itself at the active stack pointer, which then goes down a word. -/
def pushCall (s : State) : State := setActiveSp (spDown s.activeSp) (memWrite s.activeSp s.pc s)

/-- CALL (R122): the push is done before the target is checked against `W_C`, and stays when the check fails (R302). -/
def execCall (w1 : Word) (s : State) : Host.Outcome State Fault Refusal :=
  if inWc s.cfg (targetOf w1) then .next (setPc (targetOf w1) (pushCall s))
  else .next (raise (.targetOutOfWindow .CALL (targetOf w1) s.pc) (pushCall s))

/-- RET (R123): the stack pointer goes up a word first, and the word there plus 8 is the new pc. -/
def execRet (s : State) : Host.Outcome State Fault Refusal :=
  .next (setPc (memRead s (spUp s.activeSp) + 8) (setActiveSp (spUp s.activeSp) s))

/-- KILL (R124): completion processing follows in `Exec`, after the invariant check (R101, R107). -/
def execKill (s : State) : Host.Outcome State Fault Refusal := .next (advance .KILL { s with running := false })

/-- SYNC (R125): it checks its fields and orders nothing. -/
def execSync (s0 s1 s2 s3 : BitVec 2) (s : State) : Host.Outcome State Fault Refusal :=
  if syncValid s.cfg s0 s1 s2 s3 then .next (advance .SYNC s)
  else .next (raise (.badField .SYNC .s0123 ((syncFields s0 s1 s2 s3).setWidth 32) s.pc) s)

/-- CLEAR_A (R126): its sub-fields have no effect. -/
def execClearA (_w1 : Word) (s : State) : Host.Outcome State Fault Refusal := .next (advance .CLEAR_A s)

/-- CLEAR_B (R127): its sub-fields have no effect. -/
def execClearB (_w1 : Word) (s : State) : Host.Outcome State Fault Refusal := .next (advance .CLEAR_B s)

end Sys2Proof.Machine
end

