-- ==== Sys2Proof/Machine/Diagnostic.lean ====
section
/-! DEFINITION. The 18 diagnostic instructions (46_diagnostic.md, R220 to R238): legal, with no state effect beyond the pc. -/

namespace Sys2Proof.Machine

/-- `Diag(op)` (R220). -/
def diag (m : Mnemonic) (s : State) : Host.Outcome State Fault Refusal := .next (advance m s)

/-- DIAG_101 (R221). -/
def execDiag101 (_extra : List Word) (s : State) : Host.Outcome State Fault Refusal := diag .DIAG_101 s

/-- DIAG_301 (R222). -/
def execDiag301 (_extra : List Word) (s : State) : Host.Outcome State Fault Refusal := diag .DIAG_301 s

/-- DIAG_501 (R223). -/
def execDiag501 (_extra : List Word) (s : State) : Host.Outcome State Fault Refusal := diag .DIAG_501 s

/-- DIAG_043 (R224). -/
def execDiag043 (_extra : List Word) (s : State) : Host.Outcome State Fault Refusal := diag .DIAG_043 s

/-- DIAG_901 (R225). -/
def execDiag901 (_extra : List Word) (s : State) : Host.Outcome State Fault Refusal := diag .DIAG_901 s

/-- DIAG_3A1 (R226). -/
def execDiag3A1 (_extra : List Word) (s : State) : Host.Outcome State Fault Refusal := diag .DIAG_3A1 s

/-- DIAG_5A1 (R227). -/
def execDiag5A1 (_extra : List Word) (s : State) : Host.Outcome State Fault Refusal := diag .DIAG_5A1 s

/-- DIAG_6D1 (R228). -/
def execDiag6D1 (_extra : List Word) (s : State) : Host.Outcome State Fault Refusal := diag .DIAG_6D1 s

/-- DIAG_181 (R229). -/
def execDiag181 (_extra : List Word) (s : State) : Host.Outcome State Fault Refusal := diag .DIAG_181 s

/-- DIAG_303 (R230). -/
def execDiag303 (_extra : List Word) (s : State) : Host.Outcome State Fault Refusal := diag .DIAG_303 s

/-- DIAG_104 (R231). -/
def execDiag104 (_extra : List Word) (s : State) : Host.Outcome State Fault Refusal := diag .DIAG_104 s

/-- DIAG_051 (R232). -/
def execDiag051 (_extra : List Word) (s : State) : Host.Outcome State Fault Refusal := diag .DIAG_051 s

/-- DIAG_006 (R233). -/
def execDiag006 (_extra : List Word) (s : State) : Host.Outcome State Fault Refusal := diag .DIAG_006 s

/-- DIAG_046 (R234). -/
def execDiag046 (_extra : List Word) (s : State) : Host.Outcome State Fault Refusal := diag .DIAG_046 s

/-- DIAG_451 (R235). -/
def execDiag451 (_extra : List Word) (s : State) : Host.Outcome State Fault Refusal := diag .DIAG_451 s

/-- DIAG_064 (R236). -/
def execDiag064 (_extra : List Word) (s : State) : Host.Outcome State Fault Refusal := diag .DIAG_064 s

/-- DIAG_561 (R237). -/
def execDiag561 (_extra : List Word) (s : State) : Host.Outcome State Fault Refusal := diag .DIAG_561 s

/-- DIAG_E88 (R238). -/
def execDiagE88 (_extra : List Word) (s : State) : Host.Outcome State Fault Refusal := diag .DIAG_E88 s

end Sys2Proof.Machine
end

