-- ==== Sys2Proof/Machine/Matrix.lean ====
section
/-! DEFINITION. The matrix instructions (44_matrix.md, R180 to R185). There is no Matrix Recall (R186). -/

namespace Sys2Proof.Machine

/-- `MtxSet(v)` (R180): the row that the 2-bit sub-index names takes the three bit patterns; `index` and `mid` have no
effect. -/
def mtxSet (m : Mnemonic) (sub : BitVec 2) (row : Vec3) (s : State) : Host.Outcome State Fault Refusal :=
  .next (advance m (setMvRow sub.toFin row s))

/-- MTX_SET_0 (R181). -/
def execMtxSet0 (_index : BitVec 3) (_mid sub : BitVec 2) (x y z : F32) (s : State) : Host.Outcome State Fault Refusal :=
  mtxSet .MTX_SET_0 sub (vec3Of x y z) s

/-- MTX_SET_1 (R182). -/
def execMtxSet1 (_index : BitVec 3) (_mid sub : BitVec 2) (x y z : F32) (s : State) : Host.Outcome State Fault Refusal :=
  mtxSet .MTX_SET_1 sub (vec3Of x y z) s

/-- MTX_SET_2 (R183). -/
def execMtxSet2 (_index : BitVec 3) (_mid sub : BitVec 2) (x y z : F32) (s : State) : Host.Outcome State Fault Refusal :=
  mtxSet .MTX_SET_2 sub (vec3Of x y z) s

/-- MTX_SET_3 (R184). -/
def execMtxSet3 (_index : BitVec 3) (_mid sub : BitVec 2) (x y z : F32) (s : State) : Host.Outcome State Fault Refusal :=
  mtxSet .MTX_SET_3 sub (vec3Of x y z) s

/-- MTX_COMMIT (R185): the index is checked against nothing and nothing is copied. -/
def execMtxCommit (_index : BitVec 3) (s : State) : Host.Outcome State Fault Refusal := .next (advance .MTX_COMMIT s)

end Sys2Proof.Machine
end

