-- ==== Sys2Proof/Machine/Texture.lean ====
section
/-! DEFINITION. The texture-parameter instructions (43_color_texture.md, R167 to R172): no state but `pc` changes. -/

namespace Sys2Proof.Machine

/-- `TexSet(k)` (R167): the texhead scratch is not written and no texture cache is invalidated. -/
def texSet (m : Mnemonic) (s : State) : Host.Outcome State Fault Refusal := .next (advance m s)

/-- TEX_SET_0 (R168). -/
def execTexSet0 (_attr : BitVec 20) (s : State) : Host.Outcome State Fault Refusal := texSet .TEX_SET_0 s

/-- TEX_SET_2 (R169). -/
def execTexSet2 (_attr : BitVec 20) (s : State) : Host.Outcome State Fault Refusal := texSet .TEX_SET_2 s

/-- TEX_SET_4 (R170). -/
def execTexSet4 (_attr : BitVec 20) (s : State) : Host.Outcome State Fault Refusal := texSet .TEX_SET_4 s

/-- TEX_COMMIT (R171): no texhead slot is written. -/
def execTexCommit (_attr : BitVec 20) (s : State) : Host.Outcome State Fault Refusal := .next (advance .TEX_COMMIT s)

/-- TEX_RECALL (R172, R142). -/
def execTexRecall (_attr : BitVec 20) (s : State) : Host.Outcome State Fault Refusal :=
  .next (advance .TEX_RECALL (recallSlot .texhead s))

end Sys2Proof.Machine
end

