-- ==== Sys2Proof/Machine/Assembler.lean ====
section
/-! DEFINITION. The vertex/triangle assembler: RingClear, append, emit_triangle and Emit (R191, R192, R195, R196). -/

namespace Sys2Proof.Machine

/-- `RingClear()` (R195). -/
def ringClear (s : State) : State := { s with ring := emptyRing, cursor := 0 }

/-- The normalised position of a vertex: `x/640`, then `y/480` rounded and `1.0` added, `z` as it is (R191). Draws `n` and
`n + 1` stand for a NaN in x and in y (R193). -/
def normalise (c : Cfg) (n : Nat) (p : Vec3) : Vec3 :=
  { x := settleF32 n (fdiv32 c p.x f32_640)
    y := settleF32 (n + 1) ((fdiv32 c p.y f32_480).bind fun q => fadd32 c q f32_1)
    z := p.z }

/-- `append(x, y, z)` (R191). -/
def append (p : Vec3) (s : State) : State :=
  { s with
    ring := s.ring.set s.cursor (some (normalise s.cfg s.draws p))
    cursor := s.cursor + 1
    draws := s.draws + 2 }

/-- The ring slot of the `i`-th most recent position, `i` counted from 0: `(cursor - 1 - i) mod 3` (R192). -/
def recentSlot (s : State) (i : Fin 3) : Fin 3 := s.cursor - 1 - i

/-- The `i`-th most recent position (R192). -/
def recentPos (s : State) (i : Fin 3) : Option Vec3 := s.ring.get (recentSlot s i)

/-- A UV pair divided by 256 (R192); draws `n` and `n + 1` stand for a NaN in u and in v (R193). -/
def normaliseUV (c : Cfg) (n : Nat) (t : UV) : UV :=
  { u := settleF32 n (fdiv32 c t.u f32_256)
    v := settleF32 (n + 1) (fdiv32 c t.v f32_256) }

/-- `Emit(t)` (R196). -/
def emit (t : Triangle) (s : State) : State := { s with triOut := s.triOut ++ [t] }

/-- `emit_triangle(uv0, uv1, uv2)` (R192): the first empty slot, most recent first, is the fault. The step makes six draws,
one for each quotient that may be a NaN. -/
def emitTriangle (uv0 uv1 uv2 : UV) (s : State) : Except FaultReason State :=
  match recentPos s 0, recentPos s 1, recentPos s 2 with
  | none, _, _ => .error (.emptyRingSlot (recentSlot s 0) s.pc)
  | some _, none, _ => .error (.emptyRingSlot (recentSlot s 1) s.pc)
  | some _, some _, none => .error (.emptyRingSlot (recentSlot s 2) s.pc)
  | some p0, some p1, some p2 =>
    .ok (emit
      { v0 := ⟨p0, normaliseUV s.cfg s.draws uv0⟩
        v1 := ⟨p1, normaliseUV s.cfg (s.draws + 2) uv1⟩
        v2 := ⟨p2, normaliseUV s.cfg (s.draws + 4) uv2⟩ }
      { s with draws := s.draws + 6 })

end Sys2Proof.Machine
end

