-- ==== Sys2Proof/Machine/Vertex.lean ====
section
/-! DEFINITION. The vertex instructions (45_vertex.md, R197 to R213). -/

namespace Sys2Proof.Machine

/-- `Vtx3f(v)` (R197). -/
def vtx3f (m : Mnemonic) (p : Vec3) (s : State) : Host.Outcome State Fault Refusal := .next (advance m (append p s))

/-- VTX3F_0 (R198). -/
def execVtx3f0 (x y z : F32) (s : State) : Host.Outcome State Fault Refusal := vtx3f .VTX3F_0 (vec3Of x y z) s

/-- VTX3F_1 (R199). -/
def execVtx3f1 (x y z : F32) (s : State) : Host.Outcome State Fault Refusal := vtx3f .VTX3F_1 (vec3Of x y z) s

/-- VTX3F_2 (R200). -/
def execVtx3f2 (x y z : F32) (s : State) : Host.Outcome State Fault Refusal := vtx3f .VTX3F_2 (vec3Of x y z) s

/-- VTX3F_3 (R201). -/
def execVtx3f3 (x y z : F32) (s : State) : Host.Outcome State Fault Refusal := vtx3f .VTX3F_3 (vec3Of x y z) s

/-- `VtxN(v)` (R202): the header fields, the position and the normal are decoded and have no effect. -/
def vtxN (m : Mnemonic) (s : State) : Host.Outcome State Fault Refusal := .next (advance m s)

/-- VTXN_0 (R203). -/
def execVtxN0 (_h0 _h1 : Word) (_x _y _z _nx _ny _nz : F32) (s : State) : Host.Outcome State Fault Refusal :=
  vtxN .VTXN_0 s

/-- VTXN_1 (R204). -/
def execVtxN1 (_h0 _h1 : Word) (_x _y _z _nx _ny _nz : F32) (s : State) : Host.Outcome State Fault Refusal :=
  vtxN .VTXN_1 s

/-- VTXN_2 (R205). -/
def execVtxN2 (_h0 _h1 : Word) (_x _y _z _nx _ny _nz : F32) (s : State) : Host.Outcome State Fault Refusal :=
  vtxN .VTXN_2 s

/-- VTXN_3 (R206). -/
def execVtxN3 (_h0 _h1 : Word) (_x _y _z _nx _ny _nz : F32) (s : State) : Host.Outcome State Fault Refusal :=
  vtxN .VTXN_3 s

/-- VTXN_4 (R207). -/
def execVtxN4 (_h0 _h1 : Word) (_x _y _z _nx _ny _nz : F32) (s : State) : Host.Outcome State Fault Refusal :=
  vtxN .VTXN_4 s

/-- VTXN_5 (R208). -/
def execVtxN5 (_h0 _h1 : Word) (_x _y _z _nx _ny _nz : F32) (s : State) : Host.Outcome State Fault Refusal :=
  vtxN .VTXN_5 s

/-- VTXN_6 (R209). -/
def execVtxN6 (_h0 _h1 : Word) (_x _y _z _nx _ny _nz : F32) (s : State) : Host.Outcome State Fault Refusal :=
  vtxN .VTXN_6 s

/-- VTXN_7 (R210). -/
def execVtxN7 (_h0 _h1 : Word) (_x _y _z _nx _ny _nz : F32) (s : State) : Host.Outcome State Fault Refusal :=
  vtxN .VTXN_7 s

/-- `TexCoord(v)` (R211): `uv0` pairs with the most recent position. A fault ends the rule with the pc where it was. -/
def texCoord (m : Mnemonic) (uv0 uv1 uv2 : Word) (s : State) : Host.Outcome State Fault Refusal :=
  match emitTriangle (uvDecode s.cfg uv0) (uvDecode s.cfg uv1) (uvDecode s.cfg uv2) s with
  | .ok t => .next (advance m t)
  | .error r => .next (raise r s)

/-- TEXCOORD_0 (R212). -/
def execTexCoord0 (uv0 uv1 uv2 : Word) (s : State) : Host.Outcome State Fault Refusal := texCoord .TEXCOORD_0 uv0 uv1 uv2 s

/-- TEXCOORD_1 (R213). -/
def execTexCoord1 (uv0 uv1 uv2 : Word) (s : State) : Host.Outcome State Fault Refusal := texCoord .TEXCOORD_1 uv0 uv1 uv2 s

end Sys2Proof.Machine
end

