-- ==== Sys2Proof/Machine/Viewport.lean ====
section
/-! DEFINITION. The viewport instructions (42_viewport.md, R143 to R151). -/

namespace Sys2Proof.Machine

/-- `VpSet(k)` (R143): the words of the instruction become part `k` of the viewport scratch. -/
def vpSet (k : Fin 6) (m : Mnemonic) (attr : BitVec 20) (ws : List Word) (s : State) : Host.Outcome State Fault Refusal :=
  .next (advance m (setVpPart k (vpWords s.cfg m attr ws) s))

/-- VP_SET_0 (R144). -/
def execVpSet0 (attr : BitVec 20) (ws : List Word) (s : State) : Host.Outcome State Fault Refusal :=
  vpSet 0 .VP_SET_0 attr ws s

/-- VP_SET_1 (R145). -/
def execVpSet1 (attr : BitVec 20) (ws : List Word) (s : State) : Host.Outcome State Fault Refusal :=
  vpSet 1 .VP_SET_1 attr ws s

/-- VP_SET_2 (R146). -/
def execVpSet2 (attr : BitVec 20) (ws : List Word) (s : State) : Host.Outcome State Fault Refusal :=
  vpSet 2 .VP_SET_2 attr ws s

/-- VP_SET_3 (R147). -/
def execVpSet3 (attr : BitVec 20) (ws : List Word) (s : State) : Host.Outcome State Fault Refusal :=
  vpSet 3 .VP_SET_3 attr ws s

/-- VP_SET_4 (R148). -/
def execVpSet4 (attr : BitVec 20) (ws : List Word) (s : State) : Host.Outcome State Fault Refusal :=
  vpSet 4 .VP_SET_4 attr ws s

/-- VP_SET_5 (R149). -/
def execVpSet5 (attr : BitVec 20) (ws : List Word) (s : State) : Host.Outcome State Fault Refusal :=
  vpSet 5 .VP_SET_5 attr ws s

/-- VP_COMMIT (R150): `n = 0` is fatal; the scratch is copied into slot `n`. -/
def execVpCommit (n : BitVec 3) (s : State) : Host.Outcome State Fault Refusal :=
  if n = 0 then .next (raise (.badField .VP_COMMIT .n (n.setWidth 32) s.pc) s)
  else match commit .viewport n.toNat s with
    | .ok t => .next (advance .VP_COMMIT t)
    | .error r => .next (raise r s)

/-- VP_RECALL (R151, R142): its fields are decoded and nothing follows. -/
def execVpRecall (_n _p _q : Word) (s : State) : Host.Outcome State Fault Refusal :=
  .next (advance .VP_RECALL (recallSlot .viewport s))

end Sys2Proof.Machine
end

