-- ==== Sys2Proof/Machine/Dispatch.lean ====
section
/-! DEFINITION. `Execute(m, w)` (R102): one arm per instruction, each one call of its meaning. -/

namespace Sys2Proof.Machine

def exec (i : Instr) (s : State) : Host.Outcome State Fault Refusal :=
  match i with
  | .nop => Sys2Proof.Machine.execNop s
  | .jump w1 => Sys2Proof.Machine.execJump w1 s
  | .call w1 => Sys2Proof.Machine.execCall w1 s
  | .ret => Sys2Proof.Machine.execRet s
  | .kill => Sys2Proof.Machine.execKill s
  | .sync s0 s1 s2 s3 => Sys2Proof.Machine.execSync s0 s1 s2 s3 s
  | .clearA w1 => Sys2Proof.Machine.execClearA w1 s
  | .clearB w1 => Sys2Proof.Machine.execClearB w1 s
  | .vpSet0 attr ws => Sys2Proof.Machine.execVpSet0 attr ws s
  | .vpSet1 attr ws => Sys2Proof.Machine.execVpSet1 attr ws s
  | .vpSet2 attr ws => Sys2Proof.Machine.execVpSet2 attr ws s
  | .vpSet3 attr ws => Sys2Proof.Machine.execVpSet3 attr ws s
  | .vpSet4 attr ws => Sys2Proof.Machine.execVpSet4 attr ws s
  | .vpSet5 attr ws => Sys2Proof.Machine.execVpSet5 attr ws s
  | .vpCommit n => Sys2Proof.Machine.execVpCommit n s
  | .vpRecall n p q => Sys2Proof.Machine.execVpRecall n p q s
  | .colorSet0 attr w1 => Sys2Proof.Machine.execColorSet0 attr w1 s
  | .colorSet2 attr w1 => Sys2Proof.Machine.execColorSet2 attr w1 s
  | .colorSet4 attr w1 => Sys2Proof.Machine.execColorSet4 attr w1 s
  | .colorSet6 attr w1 => Sys2Proof.Machine.execColorSet6 attr w1 s
  | .colorCommit count modifier => Sys2Proof.Machine.execColorCommit count modifier s
  | .colorRecall count modifier => Sys2Proof.Machine.execColorRecall count modifier s
  | .texSet0 attr => Sys2Proof.Machine.execTexSet0 attr s
  | .texSet2 attr => Sys2Proof.Machine.execTexSet2 attr s
  | .texSet4 attr => Sys2Proof.Machine.execTexSet4 attr s
  | .texCommit attr => Sys2Proof.Machine.execTexCommit attr s
  | .texRecall attr => Sys2Proof.Machine.execTexRecall attr s
  | .mtxSet0 index mid sub x y z => Sys2Proof.Machine.execMtxSet0 index mid sub x y z s
  | .mtxSet1 index mid sub x y z => Sys2Proof.Machine.execMtxSet1 index mid sub x y z s
  | .mtxSet2 index mid sub x y z => Sys2Proof.Machine.execMtxSet2 index mid sub x y z s
  | .mtxSet3 index mid sub x y z => Sys2Proof.Machine.execMtxSet3 index mid sub x y z s
  | .mtxCommit index => Sys2Proof.Machine.execMtxCommit index s
  | .vtx3f0 x y z => Sys2Proof.Machine.execVtx3f0 x y z s
  | .vtx3f1 x y z => Sys2Proof.Machine.execVtx3f1 x y z s
  | .vtx3f2 x y z => Sys2Proof.Machine.execVtx3f2 x y z s
  | .vtx3f3 x y z => Sys2Proof.Machine.execVtx3f3 x y z s
  | .vtxN0 h0 h1 x y z nx ny nz => Sys2Proof.Machine.execVtxN0 h0 h1 x y z nx ny nz s
  | .vtxN1 h0 h1 x y z nx ny nz => Sys2Proof.Machine.execVtxN1 h0 h1 x y z nx ny nz s
  | .vtxN2 h0 h1 x y z nx ny nz => Sys2Proof.Machine.execVtxN2 h0 h1 x y z nx ny nz s
  | .vtxN3 h0 h1 x y z nx ny nz => Sys2Proof.Machine.execVtxN3 h0 h1 x y z nx ny nz s
  | .vtxN4 h0 h1 x y z nx ny nz => Sys2Proof.Machine.execVtxN4 h0 h1 x y z nx ny nz s
  | .vtxN5 h0 h1 x y z nx ny nz => Sys2Proof.Machine.execVtxN5 h0 h1 x y z nx ny nz s
  | .vtxN6 h0 h1 x y z nx ny nz => Sys2Proof.Machine.execVtxN6 h0 h1 x y z nx ny nz s
  | .vtxN7 h0 h1 x y z nx ny nz => Sys2Proof.Machine.execVtxN7 h0 h1 x y z nx ny nz s
  | .texCoord0 uv0 uv1 uv2 => Sys2Proof.Machine.execTexCoord0 uv0 uv1 uv2 s
  | .texCoord1 uv0 uv1 uv2 => Sys2Proof.Machine.execTexCoord1 uv0 uv1 uv2 s
  | .diag101 extra => Sys2Proof.Machine.execDiag101 extra s
  | .diag301 extra => Sys2Proof.Machine.execDiag301 extra s
  | .diag501 extra => Sys2Proof.Machine.execDiag501 extra s
  | .diag043 extra => Sys2Proof.Machine.execDiag043 extra s
  | .diag901 extra => Sys2Proof.Machine.execDiag901 extra s
  | .diag3A1 extra => Sys2Proof.Machine.execDiag3A1 extra s
  | .diag5A1 extra => Sys2Proof.Machine.execDiag5A1 extra s
  | .diag6D1 extra => Sys2Proof.Machine.execDiag6D1 extra s
  | .diag181 extra => Sys2Proof.Machine.execDiag181 extra s
  | .diag303 extra => Sys2Proof.Machine.execDiag303 extra s
  | .diag104 extra => Sys2Proof.Machine.execDiag104 extra s
  | .diag051 extra => Sys2Proof.Machine.execDiag051 extra s
  | .diag006 extra => Sys2Proof.Machine.execDiag006 extra s
  | .diag046 extra => Sys2Proof.Machine.execDiag046 extra s
  | .diag451 extra => Sys2Proof.Machine.execDiag451 extra s
  | .diag064 extra => Sys2Proof.Machine.execDiag064 extra s
  | .diag561 extra => Sys2Proof.Machine.execDiag561 extra s
  | .diagE88 extra => Sys2Proof.Machine.execDiagE88 extra s

end Sys2Proof.Machine
end

