-- ==== Sys2Proof/WellFormed.lean ====
section
/-! DEFINITION. The constraints rule R9 puts on the configuration, and which instructions have an encoding under it: the
operands fit their fields, the operand words touch no reserved bit, and there are as many words as the length says. -/

namespace Sys2Proof

/-! ## The configuration (R9, R63, R84, R87, R91, R254) -/

/-- The sub-fields of a mnemonic (R87). -/
def Cfg.fieldsOf (c : Cfg) : Mnemonic → List Field
  | .SYNC => c.field.sync.toList
  | .CLEAR_A => c.field.clearA
  | .CLEAR_B => c.field.clearB
  | .VP_COMMIT => [c.field.vpCommitN]
  | .VP_RECALL => [c.field.vpRecallN, c.field.vpRecallP, c.field.vpRecallQ]
  | .COLOR_COMMIT => [c.field.colorCommit.count, c.field.colorCommit.modifier]
  | .COLOR_RECALL => [c.field.colorRecall.count, c.field.colorRecall.modifier]
  | .MTX_SET_0 => let f := c.field.mtxSet.get 0; [f.index, f.mid, f.sub]
  | .MTX_SET_1 => let f := c.field.mtxSet.get 1; [f.index, f.mid, f.sub]
  | .MTX_SET_2 => let f := c.field.mtxSet.get 2; [f.index, f.mid, f.sub]
  | .MTX_SET_3 => let f := c.field.mtxSet.get 3; [f.index, f.mid, f.sub]
  | .MTX_COMMIT => [c.field.mtxCommit]
  | .VTXN_0 => let f := c.field.vtxN.get 0; [f.h0, f.h1]
  | .VTXN_1 => let f := c.field.vtxN.get 1; [f.h0, f.h1]
  | .VTXN_2 => let f := c.field.vtxN.get 2; [f.h0, f.h1]
  | .VTXN_3 => let f := c.field.vtxN.get 3; [f.h0, f.h1]
  | .VTXN_4 => let f := c.field.vtxN.get 4; [f.h0, f.h1]
  | .VTXN_5 => let f := c.field.vtxN.get 5; [f.h0, f.h1]
  | .VTXN_6 => let f := c.field.vtxN.get 6; [f.h0, f.h1]
  | .VTXN_7 => let f := c.field.vtxN.get 7; [f.h0, f.h1]
  | _ => []

/-- The widths that rule R87 gives a mnemonic's sub-fields, in the order of `fieldsOf`; `none` where it gives none. -/
def Mnemonic.fieldWidths : Mnemonic → Option (List Nat)
  | .SYNC => some [2, 2, 2, 2]
  | .VP_COMMIT => some [3]
  | .MTX_SET_0 | .MTX_SET_1 | .MTX_SET_2 | .MTX_SET_3 => some [3, 2, 2]
  | .MTX_COMMIT => some [3]
  | _ => none

/-- Whether a field may lie in word `j` of a mnemonic: Clear's fields are of `w1` (R126), Vertex Normal's header fields are
of `w1` by the decided layout (R202), every other named field is of `w0`. -/
def Mnemonic.fieldWordOk : Mnemonic → Nat → Bool
  | .CLEAR_A, j | .CLEAR_B, j => decide (j = 1)
  | .VTXN_0, j | .VTXN_1, j | .VTXN_2, j | .VTXN_3, j
  | .VTXN_4, j | .VTXN_5, j | .VTXN_6, j | .VTXN_7, j => decide (j = 1)
  | _, j => decide (j = 0)

/-- A field is a slice of one word, clear of the opcode and of the reserved bits (R87). -/
def Cfg.fieldOk (c : Cfg) (m : Mnemonic) (f : Field) : Bool :=
  decide (f.lo ≤ f.hi) && decide (f.hi ≤ 31) && m.fieldWordOk f.word && (decide (f.word ≠ 0) || decide (12 ≤ f.lo))
    && decide (f.mask &&& c.reserved m f.word = 0)

/-- Whether the fields of a list are pairwise disjoint. -/
def disjointFields : List Field → Bool
  | [] => true
  | f :: fs => fs.all f.disjoint && disjointFields fs

/-- A Clear's sub-fields are 8 or 16 bits wide (R87). -/
def clearWidthsOk (fs : List Field) : Bool := fs.all fun f => decide (f.width = 8) || decide (f.width = 16)

/-- R87's constraints on `FIELD`. -/
def Cfg.fieldsWf (c : Cfg) : Bool :=
  (Mnemonic.all.all fun m =>
    (c.fieldsOf m).all (c.fieldOk m) && disjointFields (c.fieldsOf m)
      && (match m.fieldWidths with
          | none => true
          | some ws => decide ((c.fieldsOf m).map Field.width = ws)))
    && clearWidthsOk c.field.clearA && clearWidthsOk c.field.clearB

/-- R91's constraint on `OPMAP`: injective over the 64 mnemonics. -/
def Cfg.opmapWf (c : Cfg) : Bool := decide (Mnemonic.all.map c.opcode).Nodup

/-- R84's constraint on `RSV`: no opcode bit is reserved. -/
def Cfg.reservedWf (c : Cfg) : Bool := Mnemonic.all.all fun m => decide (c.reserved m 0 &&& 0xFFF = 0)

/-- R63's constraint on `WC_BASE`: a multiple of 4 MiB other than `WJ_BASE`. -/
def Cfg.windowWf (c : Cfg) : Bool := decide (c.wcBase.toNat % Config.winSize = 0) && decide (c.wcBase ≠ Config.wjBase)

/-- The block 15 offsets that rule R9 leaves open. -/
def Cfg.offsets15 (c : Cfg) : List Nat :=
  [c.offStart, c.offPcSeed, c.offSp0Seed, c.offSp1Seed, c.offIdmaAddr, c.offIdmaCount, c.offIdmaCtrl]

/-- R9's constraints on the open offsets: 4-aligned; those of block 15 in `0x00..0x9C`, pairwise distinct, and distinct from
the mask's `0x84` and the status's `0x88`. -/
def Cfg.offsetsWf (c : Cfg) : Bool :=
  (c.offsets15.all fun o => decide (o % 4 = 0) && decide (o ≤ 0x9C)) && decide (0x84 :: 0x88 :: c.offsets15).Nodup
    && decide (c.offSegaId % 4 = 0) && decide (c.fifoOff % 4 = 0)

/-- Whether a block size is a power of two and at least `least`. -/
def blockSizeOk (size : Word) (least : Nat) : Bool := decide (least ≤ size.toNat) && decide (size &&& (size - 1) = 0)

/-- R254's constraints on `BLOCK_SIZE`. -/
def Cfg.blockSizesWf (c : Cfg) : Bool :=
  blockSizeOk c.blockSize15 0x100 && blockSizeOk c.blockSize18 0x4 && blockSizeOk c.blockSize1A 0x400

/-- Every constraint the spec puts on the configuration record. -/
def Cfg.wf (c : Cfg) : Bool :=
  c.windowWf && c.opmapWf && c.reservedWf && c.fieldsWf && c.offsetsWf && c.blockSizesWf

/-! ## Instructions -/

/-- Whether `attr` as `w0[31:12]` touches no reserved bit (R84). -/
def Cfg.attrOk (c : Cfg) (m : Mnemonic) (attr : BitVec 20) : Bool := decide (c.firstWord m attr &&& c.reserved m 0 = 0)

/-- Whether the words after `w0` touch no reserved bit (R84). -/
def Cfg.tailOk (c : Cfg) (m : Mnemonic) (ws : List Word) : Bool := decide (c.firstReserved m 1 ws = none)

/-- Whether `ws` is as many words as `m` has after `w0` (R82). -/
def Cfg.tailLength (c : Cfg) (m : Mnemonic) (ws : List Word) : Bool := decide (ws.length + 1 = (c.format m).words)

/-- Whether an instruction has an encoding under the configuration (R84, R87, R91). -/
def Instr.wf (c : Cfg) (i : Instr) : Bool :=
  match i with
  | .nop => true
  | .jump w1 => c.tailOk .JUMP [w1]
  | .call w1 => c.tailOk .CALL [w1]
  | .ret => true
  | .kill => true
  | .sync _ _ _ _ => true
  | .clearA w1 => c.tailOk .CLEAR_A [w1]
  | .clearB w1 => c.tailOk .CLEAR_B [w1]
  | .vpSet0 attr ws => c.attrOk .VP_SET_0 attr && c.tailLength .VP_SET_0 ws && c.tailOk .VP_SET_0 ws
  | .vpSet1 attr ws => c.attrOk .VP_SET_1 attr && c.tailLength .VP_SET_1 ws && c.tailOk .VP_SET_1 ws
  | .vpSet2 attr ws => c.attrOk .VP_SET_2 attr && c.tailLength .VP_SET_2 ws && c.tailOk .VP_SET_2 ws
  | .vpSet3 attr ws => c.attrOk .VP_SET_3 attr && c.tailLength .VP_SET_3 ws && c.tailOk .VP_SET_3 ws
  | .vpSet4 attr ws => c.attrOk .VP_SET_4 attr && c.tailLength .VP_SET_4 ws && c.tailOk .VP_SET_4 ws
  | .vpSet5 attr ws => c.attrOk .VP_SET_5 attr && c.tailLength .VP_SET_5 ws && c.tailOk .VP_SET_5 ws
  | .vpCommit _ => true
  | .vpRecall n p q => c.field.vpRecallN.fits n && c.field.vpRecallP.fits p && c.field.vpRecallQ.fits q
  | .colorSet0 attr w1 => c.attrOk .COLOR_SET_0 attr && c.tailOk .COLOR_SET_0 [w1]
  | .colorSet2 attr w1 => c.attrOk .COLOR_SET_2 attr && c.tailOk .COLOR_SET_2 [w1]
  | .colorSet4 attr w1 => c.attrOk .COLOR_SET_4 attr && c.tailOk .COLOR_SET_4 [w1]
  | .colorSet6 attr w1 => c.attrOk .COLOR_SET_6 attr && c.tailOk .COLOR_SET_6 [w1]
  | .colorCommit count modifier => c.field.colorCommit.count.fits count && c.field.colorCommit.modifier.fits modifier
  | .colorRecall count modifier => c.field.colorRecall.count.fits count && c.field.colorRecall.modifier.fits modifier
  | .texSet0 attr => c.attrOk .TEX_SET_0 attr
  | .texSet2 attr => c.attrOk .TEX_SET_2 attr
  | .texSet4 attr => c.attrOk .TEX_SET_4 attr
  | .texCommit attr => c.attrOk .TEX_COMMIT attr
  | .texRecall attr => c.attrOk .TEX_RECALL attr
  | .mtxSet0 _ _ _ _ _ _ => true
  | .mtxSet1 _ _ _ _ _ _ => true
  | .mtxSet2 _ _ _ _ _ _ => true
  | .mtxSet3 _ _ _ _ _ _ => true
  | .mtxCommit _ => true
  | .vtx3f0 _ _ _ => true
  | .vtx3f1 _ _ _ => true
  | .vtx3f2 _ _ _ => true
  | .vtx3f3 _ _ _ => true
  | .vtxN0 h0 h1 _ _ _ _ _ _ => (c.field.vtxN.get 0).h0.fits h0 && (c.field.vtxN.get 0).h1.fits h1
  | .vtxN1 h0 h1 _ _ _ _ _ _ => (c.field.vtxN.get 1).h0.fits h0 && (c.field.vtxN.get 1).h1.fits h1
  | .vtxN2 h0 h1 _ _ _ _ _ _ => (c.field.vtxN.get 2).h0.fits h0 && (c.field.vtxN.get 2).h1.fits h1
  | .vtxN3 h0 h1 _ _ _ _ _ _ => (c.field.vtxN.get 3).h0.fits h0 && (c.field.vtxN.get 3).h1.fits h1
  | .vtxN4 h0 h1 _ _ _ _ _ _ => (c.field.vtxN.get 4).h0.fits h0 && (c.field.vtxN.get 4).h1.fits h1
  | .vtxN5 h0 h1 _ _ _ _ _ _ => (c.field.vtxN.get 5).h0.fits h0 && (c.field.vtxN.get 5).h1.fits h1
  | .vtxN6 h0 h1 _ _ _ _ _ _ => (c.field.vtxN.get 6).h0.fits h0 && (c.field.vtxN.get 6).h1.fits h1
  | .vtxN7 h0 h1 _ _ _ _ _ _ => (c.field.vtxN.get 7).h0.fits h0 && (c.field.vtxN.get 7).h1.fits h1
  | .texCoord0 uv0 uv1 uv2 => c.tailOk .TEXCOORD_0 [uv0, uv1, uv2]
  | .texCoord1 uv0 uv1 uv2 => c.tailOk .TEXCOORD_1 [uv0, uv1, uv2]
  | .diag101 extra => c.tailLength .DIAG_101 extra && c.tailOk .DIAG_101 extra
  | .diag301 extra => c.tailLength .DIAG_301 extra && c.tailOk .DIAG_301 extra
  | .diag501 extra => c.tailLength .DIAG_501 extra && c.tailOk .DIAG_501 extra
  | .diag043 extra => c.tailLength .DIAG_043 extra && c.tailOk .DIAG_043 extra
  | .diag901 extra => c.tailLength .DIAG_901 extra && c.tailOk .DIAG_901 extra
  | .diag3A1 extra => c.tailLength .DIAG_3A1 extra && c.tailOk .DIAG_3A1 extra
  | .diag5A1 extra => c.tailLength .DIAG_5A1 extra && c.tailOk .DIAG_5A1 extra
  | .diag6D1 extra => c.tailLength .DIAG_6D1 extra && c.tailOk .DIAG_6D1 extra
  | .diag181 extra => c.tailLength .DIAG_181 extra && c.tailOk .DIAG_181 extra
  | .diag303 extra => c.tailLength .DIAG_303 extra && c.tailOk .DIAG_303 extra
  | .diag104 extra => c.tailLength .DIAG_104 extra && c.tailOk .DIAG_104 extra
  | .diag051 extra => c.tailLength .DIAG_051 extra && c.tailOk .DIAG_051 extra
  | .diag006 extra => c.tailLength .DIAG_006 extra && c.tailOk .DIAG_006 extra
  | .diag046 extra => c.tailLength .DIAG_046 extra && c.tailOk .DIAG_046 extra
  | .diag451 extra => c.tailLength .DIAG_451 extra && c.tailOk .DIAG_451 extra
  | .diag064 extra => c.tailLength .DIAG_064 extra && c.tailOk .DIAG_064 extra
  | .diag561 extra => c.tailLength .DIAG_561 extra && c.tailOk .DIAG_561 extra
  | .diagE88 extra => c.tailLength .DIAG_E88 extra && c.tailOk .DIAG_E88 extra

end Sys2Proof
end

