-- ==== Sys2Proof/Decode.lean ====
section
/-! DEFINITION. The decoder of rule R92, total on any words and any bytes, and after it the encoder. A refusal has a name:
an opcode outside `OPMAP`, too few words, or a reserved bit. -/

namespace Sys2Proof

/-- Why words do not decode (R89, R92). -/
inductive DecodeError where
  /-- `w0[11:0]` is no mnemonic's opcode (R89). -/
  | unknownOpcode (w0 : Word)
  /-- Fewer words than the instruction's length; the machine always fetches enough (R102). -/
  | truncated
  /-- Word `j` of an `m` has a reserved bit set (R84, R105). -/
  | reservedBits (m : Mnemonic) (j : Nat) (wj : Word)
  deriving DecidableEq, Repr

/-- Word `j` of an instruction. -/
def wordAt (ws : List Word) (j : Nat) : Word := ws.getD j 0

/-- `w0[31:12]`, the bits above the opcode (R81). -/
def attrOf (ws : List Word) : BitVec 20 := (wordAt ws 0).extractLsb' 12 20

/-- The operands of an `m`, read from all the words of the instruction (R87, R91). -/
def Cfg.operands (c : Cfg) (m : Mnemonic) (ws : List Word) : Instr :=
  match m with
  | .NOP => .nop
  | .JUMP => .jump (wordAt ws 1)
  | .CALL => .call (wordAt ws 1)
  | .RET => .ret
  | .KILL => .kill
  | .SYNC => .sync (((c.field.sync.get 0).get ws).setWidth 2) (((c.field.sync.get 1).get ws).setWidth 2) (((c.field.sync.get 2).get ws).setWidth 2) (((c.field.sync.get 3).get ws).setWidth 2)
  | .CLEAR_A => .clearA (wordAt ws 1)
  | .CLEAR_B => .clearB (wordAt ws 1)
  | .VP_SET_0 => .vpSet0 (attrOf ws) ws.tail
  | .VP_SET_1 => .vpSet1 (attrOf ws) ws.tail
  | .VP_SET_2 => .vpSet2 (attrOf ws) ws.tail
  | .VP_SET_3 => .vpSet3 (attrOf ws) ws.tail
  | .VP_SET_4 => .vpSet4 (attrOf ws) ws.tail
  | .VP_SET_5 => .vpSet5 (attrOf ws) ws.tail
  | .VP_COMMIT => .vpCommit ((c.field.vpCommitN.get ws).setWidth 3)
  | .VP_RECALL => .vpRecall (c.field.vpRecallN.get ws) (c.field.vpRecallP.get ws) (c.field.vpRecallQ.get ws)
  | .COLOR_SET_0 => .colorSet0 (attrOf ws) (wordAt ws 1)
  | .COLOR_SET_2 => .colorSet2 (attrOf ws) (wordAt ws 1)
  | .COLOR_SET_4 => .colorSet4 (attrOf ws) (wordAt ws 1)
  | .COLOR_SET_6 => .colorSet6 (attrOf ws) (wordAt ws 1)
  | .COLOR_COMMIT => .colorCommit (c.field.colorCommit.count.get ws) (c.field.colorCommit.modifier.get ws)
  | .COLOR_RECALL => .colorRecall (c.field.colorRecall.count.get ws) (c.field.colorRecall.modifier.get ws)
  | .TEX_SET_0 => .texSet0 (attrOf ws)
  | .TEX_SET_2 => .texSet2 (attrOf ws)
  | .TEX_SET_4 => .texSet4 (attrOf ws)
  | .TEX_COMMIT => .texCommit (attrOf ws)
  | .TEX_RECALL => .texRecall (attrOf ws)
  | .MTX_SET_0 => .mtxSet0 (((c.field.mtxSet.get 0).index.get ws).setWidth 3) (((c.field.mtxSet.get 0).mid.get ws).setWidth 2) (((c.field.mtxSet.get 0).sub.get ws).setWidth 2)
      (wordAt ws 1) (wordAt ws 2) (wordAt ws 3)
  | .MTX_SET_1 => .mtxSet1 (((c.field.mtxSet.get 1).index.get ws).setWidth 3) (((c.field.mtxSet.get 1).mid.get ws).setWidth 2) (((c.field.mtxSet.get 1).sub.get ws).setWidth 2)
      (wordAt ws 1) (wordAt ws 2) (wordAt ws 3)
  | .MTX_SET_2 => .mtxSet2 (((c.field.mtxSet.get 2).index.get ws).setWidth 3) (((c.field.mtxSet.get 2).mid.get ws).setWidth 2) (((c.field.mtxSet.get 2).sub.get ws).setWidth 2)
      (wordAt ws 1) (wordAt ws 2) (wordAt ws 3)
  | .MTX_SET_3 => .mtxSet3 (((c.field.mtxSet.get 3).index.get ws).setWidth 3) (((c.field.mtxSet.get 3).mid.get ws).setWidth 2) (((c.field.mtxSet.get 3).sub.get ws).setWidth 2)
      (wordAt ws 1) (wordAt ws 2) (wordAt ws 3)
  | .MTX_COMMIT => .mtxCommit ((c.field.mtxCommit.get ws).setWidth 3)
  | .VTX3F_0 => .vtx3f0 (wordAt ws 1) (wordAt ws 2) (wordAt ws 3)
  | .VTX3F_1 => .vtx3f1 (wordAt ws 1) (wordAt ws 2) (wordAt ws 3)
  | .VTX3F_2 => .vtx3f2 (wordAt ws 1) (wordAt ws 2) (wordAt ws 3)
  | .VTX3F_3 => .vtx3f3 (wordAt ws 1) (wordAt ws 2) (wordAt ws 3)
  | .VTXN_0 => .vtxN0 ((c.field.vtxN.get 0).h0.get ws) ((c.field.vtxN.get 0).h1.get ws)
      (wordAt ws 2) (wordAt ws 3) (wordAt ws 4) (wordAt ws 5) (wordAt ws 6) (wordAt ws 7)
  | .VTXN_1 => .vtxN1 ((c.field.vtxN.get 1).h0.get ws) ((c.field.vtxN.get 1).h1.get ws)
      (wordAt ws 2) (wordAt ws 3) (wordAt ws 4) (wordAt ws 5) (wordAt ws 6) (wordAt ws 7)
  | .VTXN_2 => .vtxN2 ((c.field.vtxN.get 2).h0.get ws) ((c.field.vtxN.get 2).h1.get ws)
      (wordAt ws 2) (wordAt ws 3) (wordAt ws 4) (wordAt ws 5) (wordAt ws 6) (wordAt ws 7)
  | .VTXN_3 => .vtxN3 ((c.field.vtxN.get 3).h0.get ws) ((c.field.vtxN.get 3).h1.get ws)
      (wordAt ws 2) (wordAt ws 3) (wordAt ws 4) (wordAt ws 5) (wordAt ws 6) (wordAt ws 7)
  | .VTXN_4 => .vtxN4 ((c.field.vtxN.get 4).h0.get ws) ((c.field.vtxN.get 4).h1.get ws)
      (wordAt ws 2) (wordAt ws 3) (wordAt ws 4) (wordAt ws 5) (wordAt ws 6) (wordAt ws 7)
  | .VTXN_5 => .vtxN5 ((c.field.vtxN.get 5).h0.get ws) ((c.field.vtxN.get 5).h1.get ws)
      (wordAt ws 2) (wordAt ws 3) (wordAt ws 4) (wordAt ws 5) (wordAt ws 6) (wordAt ws 7)
  | .VTXN_6 => .vtxN6 ((c.field.vtxN.get 6).h0.get ws) ((c.field.vtxN.get 6).h1.get ws)
      (wordAt ws 2) (wordAt ws 3) (wordAt ws 4) (wordAt ws 5) (wordAt ws 6) (wordAt ws 7)
  | .VTXN_7 => .vtxN7 ((c.field.vtxN.get 7).h0.get ws) ((c.field.vtxN.get 7).h1.get ws)
      (wordAt ws 2) (wordAt ws 3) (wordAt ws 4) (wordAt ws 5) (wordAt ws 6) (wordAt ws 7)
  | .TEXCOORD_0 => .texCoord0 (wordAt ws 1) (wordAt ws 2) (wordAt ws 3)
  | .TEXCOORD_1 => .texCoord1 (wordAt ws 1) (wordAt ws 2) (wordAt ws 3)
  | .DIAG_101 => .diag101 ws.tail
  | .DIAG_301 => .diag301 ws.tail
  | .DIAG_501 => .diag501 ws.tail
  | .DIAG_043 => .diag043 ws.tail
  | .DIAG_901 => .diag901 ws.tail
  | .DIAG_3A1 => .diag3A1 ws.tail
  | .DIAG_5A1 => .diag5A1 ws.tail
  | .DIAG_6D1 => .diag6D1 ws.tail
  | .DIAG_181 => .diag181 ws.tail
  | .DIAG_303 => .diag303 ws.tail
  | .DIAG_104 => .diag104 ws.tail
  | .DIAG_051 => .diag051 ws.tail
  | .DIAG_006 => .diag006 ws.tail
  | .DIAG_046 => .diag046 ws.tail
  | .DIAG_451 => .diag451 ws.tail
  | .DIAG_064 => .diag064 ws.tail
  | .DIAG_561 => .diag561 ws.tail
  | .DIAG_E88 => .diagE88 ws.tail

/-- Decodes the instruction at the front of a list of words, and gives the words after it (R82, R84, R92). -/
def Cfg.decode (c : Cfg) (ws : List Word) : Except DecodeError (Instr × List Word) :=
  match ws with
  | [] => .error .truncated
  | w0 :: _ =>
    match c.mnemonicOf w0 with
    | none => .error (.unknownOpcode w0)
    | some m =>
      let n := (c.format m).words
      if ws.length < n then .error .truncated
      else match c.firstReserved m 0 (ws.take n) with
        | some (j, wj) => .error (.reservedBits m j wj)
        | none => .ok (c.operands m (ws.take n), ws.drop n)

/-- The words that bytes at rising addresses make, in the byte order of command RAM; a last part of a word is dropped (R61). -/
def Cfg.wordsOfBytes (c : Cfg) : List Byte → List Word
  | b0 :: b1 :: b2 :: b3 :: bs => c.cramEndian.join b0 b1 b2 b3 :: c.wordsOfBytes bs
  | _ => []

/-- The bytes at rising addresses that hold a list of words (R61). -/
def Cfg.bytesOfWords (c : Cfg) (ws : List Word) : List Byte :=
  ws.flatMap fun w => (List.range 4).map fun j => c.cramEndian.byteOf w j

/-- Decodes any bytes of command RAM (R92). -/
def Cfg.decodeBytes (c : Cfg) (bs : List Byte) : Except DecodeError (Instr × List Word) :=
  c.decode (c.wordsOfBytes bs)

/-! ## The encoder (R94, R87) -/

/-- The words of an instruction: its opcode, its sub-fields placed by `FIELD`, its operand words as given, every other bit
zero (R94). -/
def Cfg.encode (c : Cfg) (i : Instr) : List Word :=
  match i with
  | .nop => [c.firstWord .NOP 0]
  | .jump w1 => [c.firstWord .JUMP 0, w1]
  | .call w1 => [c.firstWord .CALL 0, w1]
  | .ret => c.firstWord .RET 0 :: List.replicate ((c.format .RET).words - 1) 0
  | .kill => [c.firstWord .KILL 0]
  | .sync s0 s1 s2 s3 => [c.firstWord .SYNC 0 ||| (c.field.sync.get 0).place 0 (s0.setWidth 32) ||| (c.field.sync.get 1).place 0 (s1.setWidth 32) ||| (c.field.sync.get 2).place 0 (s2.setWidth 32) ||| (c.field.sync.get 3).place 0 (s3.setWidth 32)]
  | .clearA w1 => [c.firstWord .CLEAR_A 0, w1]
  | .clearB w1 => [c.firstWord .CLEAR_B 0, w1]
  | .vpSet0 attr ws => c.firstWord .VP_SET_0 attr :: ws
  | .vpSet1 attr ws => c.firstWord .VP_SET_1 attr :: ws
  | .vpSet2 attr ws => c.firstWord .VP_SET_2 attr :: ws
  | .vpSet3 attr ws => c.firstWord .VP_SET_3 attr :: ws
  | .vpSet4 attr ws => c.firstWord .VP_SET_4 attr :: ws
  | .vpSet5 attr ws => c.firstWord .VP_SET_5 attr :: ws
  | .vpCommit n => [c.firstWord .VP_COMMIT 0 ||| c.field.vpCommitN.place 0 (n.setWidth 32)]
  | .vpRecall n p q => [c.firstWord .VP_RECALL 0 ||| c.field.vpRecallN.place 0 n ||| c.field.vpRecallP.place 0 p ||| c.field.vpRecallQ.place 0 q]
  | .colorSet0 attr w1 => [c.firstWord .COLOR_SET_0 attr, w1]
  | .colorSet2 attr w1 => [c.firstWord .COLOR_SET_2 attr, w1]
  | .colorSet4 attr w1 => [c.firstWord .COLOR_SET_4 attr, w1]
  | .colorSet6 attr w1 => [c.firstWord .COLOR_SET_6 attr, w1]
  | .colorCommit count modifier => [c.firstWord .COLOR_COMMIT 0 ||| c.field.colorCommit.count.place 0 count ||| c.field.colorCommit.modifier.place 0 modifier]
  | .colorRecall count modifier => [c.firstWord .COLOR_RECALL 0 ||| c.field.colorRecall.count.place 0 count ||| c.field.colorRecall.modifier.place 0 modifier]
  | .texSet0 attr => [c.firstWord .TEX_SET_0 attr]
  | .texSet2 attr => [c.firstWord .TEX_SET_2 attr]
  | .texSet4 attr => [c.firstWord .TEX_SET_4 attr]
  | .texCommit attr => [c.firstWord .TEX_COMMIT attr]
  | .texRecall attr => [c.firstWord .TEX_RECALL attr]
  | .mtxSet0 index mid sub x y z => [c.firstWord .MTX_SET_0 0 ||| (c.field.mtxSet.get 0).index.place 0 (index.setWidth 32) ||| (c.field.mtxSet.get 0).mid.place 0 (mid.setWidth 32)
      ||| (c.field.mtxSet.get 0).sub.place 0 (sub.setWidth 32), x, y, z]
  | .mtxSet1 index mid sub x y z => [c.firstWord .MTX_SET_1 0 ||| (c.field.mtxSet.get 1).index.place 0 (index.setWidth 32) ||| (c.field.mtxSet.get 1).mid.place 0 (mid.setWidth 32)
      ||| (c.field.mtxSet.get 1).sub.place 0 (sub.setWidth 32), x, y, z]
  | .mtxSet2 index mid sub x y z => [c.firstWord .MTX_SET_2 0 ||| (c.field.mtxSet.get 2).index.place 0 (index.setWidth 32) ||| (c.field.mtxSet.get 2).mid.place 0 (mid.setWidth 32)
      ||| (c.field.mtxSet.get 2).sub.place 0 (sub.setWidth 32), x, y, z]
  | .mtxSet3 index mid sub x y z => [c.firstWord .MTX_SET_3 0 ||| (c.field.mtxSet.get 3).index.place 0 (index.setWidth 32) ||| (c.field.mtxSet.get 3).mid.place 0 (mid.setWidth 32)
      ||| (c.field.mtxSet.get 3).sub.place 0 (sub.setWidth 32), x, y, z]
  | .mtxCommit index => [c.firstWord .MTX_COMMIT 0 ||| c.field.mtxCommit.place 0 (index.setWidth 32)]
  | .vtx3f0 x y z => [c.firstWord .VTX3F_0 0, x, y, z]
  | .vtx3f1 x y z => [c.firstWord .VTX3F_1 0, x, y, z]
  | .vtx3f2 x y z => [c.firstWord .VTX3F_2 0, x, y, z]
  | .vtx3f3 x y z => [c.firstWord .VTX3F_3 0, x, y, z]
  | .vtxN0 h0 h1 x y z nx ny nz => [c.firstWord .VTXN_0 0, (c.field.vtxN.get 0).h0.place 1 h0 ||| (c.field.vtxN.get 0).h1.place 1 h1, x, y, z, nx, ny, nz]
  | .vtxN1 h0 h1 x y z nx ny nz => [c.firstWord .VTXN_1 0, (c.field.vtxN.get 1).h0.place 1 h0 ||| (c.field.vtxN.get 1).h1.place 1 h1, x, y, z, nx, ny, nz]
  | .vtxN2 h0 h1 x y z nx ny nz => [c.firstWord .VTXN_2 0, (c.field.vtxN.get 2).h0.place 1 h0 ||| (c.field.vtxN.get 2).h1.place 1 h1, x, y, z, nx, ny, nz]
  | .vtxN3 h0 h1 x y z nx ny nz => [c.firstWord .VTXN_3 0, (c.field.vtxN.get 3).h0.place 1 h0 ||| (c.field.vtxN.get 3).h1.place 1 h1, x, y, z, nx, ny, nz]
  | .vtxN4 h0 h1 x y z nx ny nz => [c.firstWord .VTXN_4 0, (c.field.vtxN.get 4).h0.place 1 h0 ||| (c.field.vtxN.get 4).h1.place 1 h1, x, y, z, nx, ny, nz]
  | .vtxN5 h0 h1 x y z nx ny nz => [c.firstWord .VTXN_5 0, (c.field.vtxN.get 5).h0.place 1 h0 ||| (c.field.vtxN.get 5).h1.place 1 h1, x, y, z, nx, ny, nz]
  | .vtxN6 h0 h1 x y z nx ny nz => [c.firstWord .VTXN_6 0, (c.field.vtxN.get 6).h0.place 1 h0 ||| (c.field.vtxN.get 6).h1.place 1 h1, x, y, z, nx, ny, nz]
  | .vtxN7 h0 h1 x y z nx ny nz => [c.firstWord .VTXN_7 0, (c.field.vtxN.get 7).h0.place 1 h0 ||| (c.field.vtxN.get 7).h1.place 1 h1, x, y, z, nx, ny, nz]
  | .texCoord0 uv0 uv1 uv2 => [c.firstWord .TEXCOORD_0 0, uv0, uv1, uv2]
  | .texCoord1 uv0 uv1 uv2 => [c.firstWord .TEXCOORD_1 0, uv0, uv1, uv2]
  | .diag101 extra => c.firstWord .DIAG_101 0 :: extra
  | .diag301 extra => c.firstWord .DIAG_301 0 :: extra
  | .diag501 extra => c.firstWord .DIAG_501 0 :: extra
  | .diag043 extra => c.firstWord .DIAG_043 0 :: extra
  | .diag901 extra => c.firstWord .DIAG_901 0 :: extra
  | .diag3A1 extra => c.firstWord .DIAG_3A1 0 :: extra
  | .diag5A1 extra => c.firstWord .DIAG_5A1 0 :: extra
  | .diag6D1 extra => c.firstWord .DIAG_6D1 0 :: extra
  | .diag181 extra => c.firstWord .DIAG_181 0 :: extra
  | .diag303 extra => c.firstWord .DIAG_303 0 :: extra
  | .diag104 extra => c.firstWord .DIAG_104 0 :: extra
  | .diag051 extra => c.firstWord .DIAG_051 0 :: extra
  | .diag006 extra => c.firstWord .DIAG_006 0 :: extra
  | .diag046 extra => c.firstWord .DIAG_046 0 :: extra
  | .diag451 extra => c.firstWord .DIAG_451 0 :: extra
  | .diag064 extra => c.firstWord .DIAG_064 0 :: extra
  | .diag561 extra => c.firstWord .DIAG_561 0 :: extra
  | .diagE88 extra => c.firstWord .DIAG_E88 0 :: extra

/-! ## The opcode table's numbering -/

/-- The eight words of `w`, bit 0 the least significant bit of the first, with the bits from `nbits` on zero. -/
def tableWords (nbits w : Nat) : List Word :=
  (List.range 8).map fun j => BitVec.ofNat 32 ((w % 2 ^ nbits) >>> (32 * j))

/-- What the decoder reads, under EXCFG, from the instruction whose bits are `w` as spec/opcode_table.json numbers them. -/
def decodeTableWord (nbits w : Nat) : Option Instr :=
  match Config.excfg.decodeBytes (Config.excfg.bytesOfWords (tableWords nbits w)) with
  | .ok (i, _) => some i
  | .error _ => none

end Sys2Proof
end

