-- ==== Sys2Proof/Machine/Flags.lean ====
section
/-! DEFINITION. The machine's flags. The CP has no condition codes (R51); the one-bit flags the block computes are the
interrupt bits, and these are the interrupt controller's operations on them (R29 to R33, R296 to R299). -/

namespace Sys2Proof.Machine

/-- The offset of the main IRQ status in block 15 (R29). -/
def offStatus : Nat := 0x88
/-- The offset of the main IRQ mask in block 15 (R30). -/
def offMask : Nat := 0x84
/-- The offset of secondary cause register `i` in block 1A (R31). -/
def offCause (i : Fin 4) : Nat := 0x08 + 4 * i.val
/-- The offset of the secondary status in block 1A (R32). -/
def offSecStatus : Nat := 0x18
/-- The offset of the secondary busy/control register in block 1A (R38). -/
def offBusyControl : Nat := 0x24

/-- The main IRQ status (R29). -/
def State.mainStatus (s : State) : Word := s.reg .b15 offStatus
/-- The main IRQ mask (R30). -/
def State.mainMask (s : State) : Word := s.reg .b15 offMask
/-- Secondary cause register `i` (R31). -/
def State.cause (s : State) (i : Fin 4) : Word := s.reg .b1A (offCause i)

/-- Bit `i` is bit 0 of cause register `i` (R32, R296). -/
def secOfCauses (s : State) : BitVec 4 :=
  (s.cause 3).extractLsb' 0 1 ++ (s.cause 2).extractLsb' 0 1 ++ (s.cause 1).extractLsb' 0 1 ++ (s.cause 0).extractLsb' 0 1

/-- The main status with bit 7 forced while a secondary bit is set (R296). -/
def summaryStatus (sec : BitVec 4) (status : Word) : Word := if sec = 0 then status else status ||| 0x80

/-- The level of the host interrupt line (R33, R298). -/
def lineLevel (status mask : Word) : Bool := decide (status &&& mask &&& 0xFF ≠ 0)

/-- `Aggregate()` (R296). -/
def aggregate (s : State) : State :=
  { s with
    secStatus := secOfCauses s
    reg15 := s.reg15.set offStatus (summaryStatus (secOfCauses s) s.mainStatus)
    irqLine := lineLevel (summaryStatus (secOfCauses s) s.mainStatus) s.mainMask }

/-- Block 1A with cause `i` set where `sec[i]` is (R297). -/
def raiseCause (sec : BitVec 4) (i : Fin 4) (l : RegBlock) : RegBlock :=
  if sec.getLsbD i.val then l.set (offCause i) (l.get (offCause i) ||| 1) else l

/-- `IrqRaise(main, sec)` (R297). -/
def irqRaise (main : BitVec 8) (sec : BitVec 4) (s : State) : State :=
  aggregate { s with
    reg15 := s.reg15.set offStatus (s.mainStatus ||| main.setWidth 32)
    reg1A := raiseCause sec 3 (raiseCause sec 2 (raiseCause sec 1 (raiseCause sec 0 s.reg1A))) }

/-- What the host sees of the line: its level and its constant vector (R299). -/
def State.irqSignal (s : State) : Bool × Nat := (s.irqLine, s.cfg.irqVector)

end Sys2Proof.Machine
end

