-- ==== Sys2Proof/Machine/Idma.lean ====
section
/-! DEFINITION. The indirect DMA stepper (48_idma.md, R280 to R284). -/

namespace Sys2Proof.Machine

/-- The IDMA address register `A` (R34, R280). -/
def State.idmaAddr (s : State) : Word := s.reg .b15 s.cfg.offIdmaAddr
/-- The IDMA count register `K` (R35, R280). -/
def State.idmaCount (s : State) : Word := s.reg .b15 s.cfg.offIdmaCount
/-- The DMA is busy exactly when the count is nonzero (R280). -/
def State.idmaBusy (s : State) : Bool := decide (s.idmaCount ≠ 0)

/-- Whether the top byte of an IDMA address is the bank marker (R281). -/
def idmaMarked (c : Cfg) (a : Word) : Bool := decide (a.extractLsb' 24 8 = c.idmaMarker)

/-- The fault of an IDMA address `a`, `d` being the draw that picks the reason when both checks fail (R281, R295). -/
def idmaAddressFault (c : Cfg) (a d : Word) : Option FaultReason :=
  if idmaMarked c a then
    if aligned4 a then none else some (.idmaMisaligned a)
  else if aligned4 a then some (.idmaBadMarker a)
  else if d.getLsbD 0 then some (.idmaBadMarker a) else some (.idmaMisaligned a)

/-- The byte length of the descriptor at `a` (R280, R281). The other three words are read and not used. -/
def idmaLength (s : State) (a : Word) : Word := memRead s (a + 4)

/-- The consumption of one entry with a nonzero length: storage updates with no write side effect, and the completion
interrupt when the count reaches 0 (R281, R282). -/
def idmaConsume (s : State) : State :=
  let t := setReg .b15 s.cfg.offIdmaCount (s.idmaCount - 1) (setReg .b15 s.cfg.offIdmaAddr (s.idmaAddr + 16) s)
  if s.idmaCount - 1 = 0 then irqRaise s.cfg.dmaDoneMain s.cfg.dmaDoneSec t else t

/-- `IdmaStep()` (R281). An entry of length 0 stalls (R283). The step makes one draw whenever it raises. -/
def idmaStep (s : State) : State :=
  if s.idmaCount = 0 then s
  else match idmaAddressFault s.cfg s.idmaAddr (Config.draw s.draws) with
    | some r => raise r { s with draws := s.draws + 1 }
    | none => if idmaLength s s.idmaAddr = 0 then s else idmaConsume s

end Sys2Proof.Machine
end

