-- ==== Sys2Proof/Machine/Engine.lean ====
section
/-! DEFINITION. The CP engine around the instructions' meanings (40_cp_engine.md): `begin()`, the fetch, decode and reserved
bits of `Step()`, the invariant check and completion processing after `Execute`, and the budget of `Exec`. -/

namespace Sys2Proof.Machine

/-- The CP execution state that `begin()` loads from the seeds, before its invariant check (R100). -/
def loadSeeds (s : State) : State :=
  { ringClear s with
    pc := s.reg .b15 s.cfg.offPcSeed
    sp := #v[s.reg .b15 s.cfg.offSp0Seed, s.reg .b15 s.cfg.offSp1Seed]
    running := true }

/-- `begin()` (R100). -/
def beginCp (s : State) : State :=
  match s.fault with
  | some _ => s
  | none => checkInvariant (loadSeeds s)

/-- The words of an `m` at `pc`, in order (R102, R103). -/
def fetchWords (s : State) (m : Mnemonic) : List Word :=
  (List.range (s.cfg.format m).words).map fun j => memRead s (s.pc + BitVec.ofNat 32 (4 * j))

/-- The first part of `Step()`: fetch, decode, the window of the whole instruction, and the reserved bits, in the order of
R102 and R295. -/
def fetch (s : State) : Except FaultReason Instr :=
  match s.cfg.mnemonicOf (memRead s s.pc) with
  | none => .error (.unknownOpcode s.pc (memRead s s.pc))
  | some m =>
    if sameWin s.cfg s.pc (s.pc + BitVec.ofNat 32 ((s.cfg.format m).bytes - 4)) then
      match s.cfg.firstReserved m 0 (fetchWords s m) with
      | some (j, wj) => .error (.reservedBits m j wj s.pc)
      | none => .ok (s.cfg.operands m (fetchWords s m))
    else .error (.fetchOutOfWindow s.pc m)

/-- `Complete()` (R107): the busy bits go first, then the completion interrupt pair (R329). -/
def complete (s : State) : State :=
  irqRaise s.cfg.cpDoneMain s.cfg.cpDoneSec (clearBits s.cfg.busy1 (clearBits s.cfg.busy0 s))

/-- The end of a host operation, with its result (R250). -/
def finish (r : HostResult) (s : State) : State := { s with results := s.results ++ [r] }

/-- The end of an `Exec`: its budget is gone (R26, R101). -/
def endExec (s : State) : State := finish .done { s with budget := none }

/-- Whether `Exec`'s loop runs another instruction, `b` units being left (R101). -/
def loopRuns (b : Nat) (s : State) : Bool := s.fault.isNone && s.running && decide (b ≠ 0)

/-- The test of `Exec`'s loop with `b` units left: go on, or end (R101, R108). -/
def continueExec (b : Nat) (s : State) : State :=
  if loopRuns b s then { s with budget := some b } else endExec s

/-- What follows `Execute` in `Step()` and in `Exec`'s loop, `b` units being left after this instruction: the invariant check,
completion processing after Kill, and the loop's test (R101, R102, R107). A fault of `Execute` or of the check comes before
completion (R124, R294). -/
def afterExecute (i : Instr) (b : Nat) (s : State) : State :=
  let t := checkInvariant s
  continueExec b (if i.isTerminal && t.fault.isNone then complete t else t)

/-- A step of `Exec` whose instruction does not decode: the fault is recorded and the operation ends (R102, R294). -/
def decodeFault (r : FaultReason) (s : State) : State := endExec (raise r s)

end Sys2Proof.Machine
end

