-- ==== Sys2Proof/Machine/RegisterFile.lean ====
section
/-! DEFINITION. The memory-mapped register file as the host sees it (47_register_file.md, R251 to R263): bus decode, read
values and read side effects, write side effects. -/

namespace Sys2Proof.Machine

/-! ## Bus decode (R28, R254) -/

/-- `CLASSIFY(addr)`: the block of the first range that holds the address. -/
def classify (c : Cfg) (addr : Word) : Option Block :=
  (c.classify.find? fun r =>
    decide (r.base.toNat ≤ addr.toNat) && decide (addr.toNat < r.base.toNat + r.bytes)).map BusRegion.block

/-- `BLOCK_SIZE[b]`. -/
def blockSize (c : Cfg) : Block → Word
  | .b15 => c.blockSize15
  | .b18 => c.blockSize18
  | .b1A => c.blockSize1A

/-- Whether `o` is a declared offset of a block (R28, R258). -/
def declared (c : Cfg) (b : Block) (o : Nat) : Bool :=
  match b with
  | .b15 => decide (o ≤ 0x9C)
  | .b18 => decide (o = 0) || c.decl18.contains o
  | .b1A =>
    decide (o ≤ 0x104) || (decide (0x180 ≤ o) && decide (o ≤ 0x1BC)) || (decide (0x200 ≤ o) && decide (o ≤ 0x23C))
      || (decide (c.fifoOff ≤ o) && decide (o ≤ c.fifoOff + 0x0C)) || decide (o = c.offSegaId)

/-- The block and offset of an access of `n` bytes at `addr`, `none` for InvalidAccess (R254, R293). -/
def busDecode (c : Cfg) (addr : Word) (n : Nat) : Option (Block × Nat) :=
  match classify c addr with
  | none => none
  | some b =>
    let o := (addr &&& (blockSize c b - 1)).toNat
    if n = 4 ∧ o % 4 = 0 ∧ declared c b o = true then some (b, o) else none

/-! ## Reads (R251, R253, R255 to R258) -/

/-- Whether a location is the write-only "SEGA" word (R258). -/
def isSegaId (c : Cfg) (b : Block) (o : Nat) : Bool := decide (b = .b1A) && decide (o = c.offSegaId)

/-- The value a host reads (R255 to R258): the identification constant, the secondary status, a draw for the write-only
"SEGA" word, else the stored word. -/
def readValue (s : State) (b : Block) (o : Nat) : Word :=
  if b = .b18 ∧ o = 0 then Config.boardId
  else if b = .b1A ∧ o = offSecStatus then s.secStatus.setWidth 32
  else if isSegaId s.cfg b o then Config.draw s.draws
  else s.reg b o

/-- The side effect of a read that `READ_CLEAR` gives (R251, R253). -/
def readEffect (b : Block) (o : Nat) (s : State) : State :=
  match s.cfg.readClear.find? fun r => decide (r.block = b) && decide (r.offset = o) with
  | some r => aggregate (clearBits r s)
  | none => s

/-- `RegRead(addr, n)` on an unfaulted device (R251). -/
def regRead (addr : Word) (n : Nat) (s : State) : State :=
  match busDecode s.cfg addr n with
  | none => finish .invalidAccess s
  | some (b, o) =>
    finish (.value (readValue s b o))
      (readEffect b o { s with draws := if isSegaId s.cfg b o then s.draws + 1 else s.draws })

/-! ## Writes (R252, R255 to R263) -/

/-- The cause register at an offset of block 1A (R31). -/
def causeAt (o : Nat) : Option (Fin 4) :=
  if o = 0x08 then some 0 else if o = 0x0C then some 1 else if o = 0x10 then some 2 else if o = 0x14 then some 3 else none

/-- A write to main control, block 15 (R252, R259, R260, R262). -/
def write15 (o : Nat) (v : Word) (s : State) : State :=
  if o = offMask then aggregate (setReg .b15 offMask v s)
  else if o = offStatus then aggregate (setReg .b15 offStatus (s.mainStatus &&& v) s)
  else if o = s.cfg.offStart then
    if v = 3 then beginCp (setReg .b15 o v s) else setReg .b15 o v s
  else setReg .b15 o v s

/-- A write to block 18: offset 0 is a constant (R252, R256). -/
def write18 (o : Nat) (v : Word) (s : State) : State := if o = 0 then s else setReg .b18 o v s

/-- A write to block 1A (R252, R257, R258, R261, R263). -/
def write1A (o : Nat) (v : Word) (s : State) : State :=
  match causeAt o with
  | some i => aggregate (setReg .b1A o (s.cause i &&& ~~~v) s)
  | none =>
    if o = offSecStatus then s
    else if o = offBusyControl then beginCp (setReg .b1A o v s)
    else if o = s.cfg.offSegaId then
      if v = Config.segaId then s else raise (.badSegaId v) s
    else setReg .b1A o v s

/-- A host write to a declared location (R252). -/
def writeEffect (b : Block) (o : Nat) (v : Word) (s : State) : State :=
  match b with
  | .b15 => write15 o v s
  | .b18 => write18 o v s
  | .b1A => write1A o v s

/-- What a write returns: `ok`, or `Faulted` when it faulted (R252). -/
def writeResult (s : State) : HostResult := if s.fault.isNone then .ok else .faulted

/-- `RegWrite(addr, n, v)` on an unfaulted device (R252). -/
def regWrite (addr : Word) (n : Nat) (v : Word) (s : State) : State :=
  match busDecode s.cfg addr n with
  | none => finish .invalidAccess s
  | some (b, o) => finish (writeResult (writeEffect b o v s)) (writeEffect b o v s)

end Sys2Proof.Machine
end

