-- ==== Sys2Proof/Machine/HostOps.lean ====
section
/-! DEFINITION. The host operations (R250): `Reset` (R320), `SetParity` (R267), the host's accesses to command RAM (R264), the
start of an `Exec` (R101), and what a faulted device answers (R294). -/

namespace Sys2Proof.Machine

/-- `Reset()` on an unfaulted device (R320). Command RAM, `triOut`, the fault and the configuration stay. -/
def resetDevice (s : State) : State :=
  { s with
    reg15 := [], reg18 := [], reg1A := []
    secStatus := 0, irqLine := false
    running := false, pc := 0, sp := #v[0, 0], parity := 0
    vpScratch := emptyViewport, viewports := []
    mvScratch := emptyModelview, modelviews := []
    matScratch := emptyMaterial, materials := []
    thScratch := emptyTexhead, texheads := []
    ltScratch := emptyLight, lights := []
    lsScratch := emptyLightset, lightsets := []
    ring := emptyRing, cursor := 0 }

/-- `SetParity(p)` (R267). -/
def setParity (p : Fin 2) (s : State) : State := { s with parity := p }

/-- The bytes of a width (R264). -/
def CramWidth.bytes : CramWidth → Nat
  | .one => 1 | .two => 2 | .four => 4

/-- Whether a host access to command RAM is a legal host operation (R264). -/
def cramAligned (a : Word) (n : CramWidth) : Bool := decide (a.toNat % n.bytes = 0)

/-- Two bytes at rising addresses as one value, in the byte order of R61. -/
def joinHalf : Endian → (b0 b1 : Byte) → BitVec 16
  | .little, b0, b1 => b1 ++ b0
  | .big, b0, b1 => b0 ++ b1

/-- The byte of a half word that lies at offset `j` (0 or 1). -/
def halfByte : Endian → (h : BitVec 16) → (j : Nat) → Byte
  | .little, h, j => h.extractLsb' (8 * j) 8
  | .big, h, j => h.extractLsb' (8 * (1 - j)) 8

/-- The value of `CramRead(a, n)` (R264). -/
def cramValue (s : State) (a : Word) : CramWidth → Word
  | .one => (s.readByte a).setWidth 32
  | .two => (joinHalf s.cfg.cramEndian (s.readByte a) (s.readByte (a + 1))).setWidth 32
  | .four => memRead s a

/-- The effect of `CramWrite(a, n, v)`: the low `n` bytes of `v` are stored (R264). Where two of the addresses have one location,
the byte of the higher address stays: DESIGN CHOICE (log entry 18). -/
def cramStore (a : Word) (n : CramWidth) (v : Word) (s : State) : State :=
  match n with
  | .one => { s with cram := storeByte s.cfg s.cram a (v.setWidth 8) }
  | .two =>
    let h := v.setWidth 16
    let m := storeByte s.cfg s.cram a (halfByte s.cfg.cramEndian h 0)
    { s with cram := storeByte s.cfg m (a + 1) (halfByte s.cfg.cramEndian h 1) }
  | .four => memWrite a v s

/-- A device operation: a faulted device changes nothing and answers `Faulted` (R250, R294). -/
def onDevice (f : State → State) (s : State) : State :=
  match s.fault with
  | some _ => finish .faulted s
  | none => f s

/-- The start of `Exec(cycles)`: the IDMA step, then the test of the loop (R101). -/
def startExec (cycles : Nat) (s : State) : State := continueExec cycles (idmaStep s)

/-- One host operation, or, for `Exec`, its start (R250). -/
def hostOp (op : HostOp) (s : State) : Host.Outcome State Fault Refusal :=
  match op with
  | .exec n => .next (onDevice (startExec n) s)
  | .regRead addr n => .next (onDevice (regRead addr n) s)
  | .regWrite addr n v => .next (onDevice (regWrite addr n v) s)
  | .reset => .next (onDevice (fun t => finish .done (resetDevice t)) s)
  | .setParity p => .next (onDevice (fun t => finish .done (setParity p t)) s)
  | .cramRead a n =>
    if cramAligned a n then .next (finish (.value (cramValue s a n)) s) else .fault (.illegalCramAccess a n)
  | .cramWrite a n v =>
    if cramAligned a n then .next (finish .done (cramStore a n v s)) else .fault (.illegalCramAccess a n)

end Sys2Proof.Machine
end

