-- ==== Sys2Proof/Machine/Cycle.lean ====
section
/-! DEFINITION. The two kinds of transition of rule R13: one instruction inside an `Exec` (R101, R102), and the next host
operation (R250). -/

namespace Sys2Proof.Machine

/-- One turn of `Exec`'s loop with `b + 1` units left: one `Step()`, its unit spent (R101, R102, R330). -/
def cpStep (b : Nat) (s : State) : Host.Outcome State Fault Refusal :=
  match fetch s with
  | .error r => .next (decodeFault r s)
  | .ok i =>
    match exec i s with
    | .next t => .next (afterExecute i b t)
    | .fault r => .fault r
    | .refused r => .refused r

/-- Inside an `Exec` with budget `b`: one instruction while the loop's condition holds, else the end of the `Exec` (R101). -/
def execStep (b : Nat) (s : State) : Host.Outcome State Fault Refusal :=
  if loopRuns b s then cpStep (b - 1) s else .next (endExec s)

/-- Between host operations: the next one the host asks for; with none the device does not move (R8). -/
def hostStep (s : State) : Host.Outcome State Fault Refusal :=
  match s.inputs with
  | [] => .next s
  | op :: rest => hostOp op { s with inputs := rest }

/-- The transition of a state (R13): the Exec in progress, or else the next host operation. -/
def transition (s : State) : Host.Outcome State Fault Refusal :=
  match s.budget with
  | some b => execStep b s
  | none => hostStep s

/-- An address from which eight words can be fetched inside `W_J`: the address itself if it is one, else `WJ_BASE`. -/
def fetchAddress (pc : Word) : Word :=
  if inWj pc && inWj (pc + 28) && aligned4 pc then pc else Config.wjBase

/-- A stack pointer that the invariant check accepts: the one given if it is, else the last word of `W_J`. -/
def usableSp (c : Cfg) (a : Word) : Word := if codeAddress c a then a else 0x483FFFFC

/-- Command RAM with a list of words stored from `a` on. -/
def storeWords (c : Cfg) (m : Memory) (a : Word) : List Word → Memory
  | [] => m
  | w :: ws => storeWords c (storeWord c m a w) (a + 4) ws

/-- The state whose next transition fetches and runs the instruction made of `ws`: the words at the pc, the CP running inside an
`Exec`, no fault, and pc and stack pointers where the invariant check accepts them. It stands for the host's boot (R322). -/
def placeInstruction (ws : List Word) (s : State) : State :=
  { s with
    pc := fetchAddress s.pc
    sp := #v[usableSp s.cfg (s.sp.get 0), usableSp s.cfg (s.sp.get 1)]
    running := true
    fault := none
    cram := storeWords s.cfg s.cram (fetchAddress s.pc) ws
    budget := some (match s.budget with | some (b + 1) => b + 1 | _ => 1) }

end Sys2Proof.Machine
end

