-- ==== Sys2Proof/Machine/Step.lean ====
section
/-! DEFINITION. The step of the machine, and the state that is about to run a given instruction. -/

namespace Sys2Proof.Machine

/-- One step: one instruction of the Exec in progress, or the next host operation (R13). -/
def step (s : State) : Host.Outcome State Fault Refusal := transition s

/-- `s` with the instruction whose bits are `w`, as spec/opcode_table.json numbers them, where the next step fetches it; the
bits from `nbits` on are zero (log entry 6). -/
def State.withFetchWord (s : State) (nbits w : Nat) : State := placeInstruction (tableWords nbits w) s

end Sys2Proof.Machine
end

