-- ==== Sys2Proof/Safety.lean ====
section
/-! DEFINITION. What the statements call a safe machine: the invariants of reachable states (R22, R23, R29, R31, R298 and the
canonical forms), CP runs and how they end (R110), and `Exec(cycles)` written out as the one operation of rule R101, to which
the machine's steps are compared. -/

namespace Sys2Proof.Machine

/-! ## Invariants -/

/-- The three equations of rule R298. -/
def IrqConsistent (s : State) : Prop :=
  s.irqLine = lineLevel s.mainStatus s.mainMask
    ∧ (∀ i : Fin 4, s.secStatus.getLsbD i.val = (s.cause i).getLsbD 0)
    ∧ (s.secStatus ≠ 0 → s.mainStatus.getLsbD 7 = true)

/-- Only bits 7:0 of the main status, and only bit 0 of a cause register, are ever set (R29, R31). -/
def IrqBitsConfined (s : State) : Prop :=
  s.mainStatus &&& 0xFFFFFF00 = 0 ∧ ∀ i : Fin 4, s.cause i &&& 0xFFFFFFFE = 0

/-- While the CP runs unfaulted, `pc` and both stack pointers lie in a window and are 4-aligned (R22, R23). -/
def CodeAddressesHold (s : State) : Prop :=
  s.fault = none → s.running = true →
    codeAddress s.cfg s.pc = true ∧ ∀ p : Fin 2, codeAddress s.cfg (s.sp.get p) = true

/-- An `Exec` in progress has budget left on a running, unfaulted CP (R101). -/
def BudgetHolds (s : State) : Prop :=
  ∀ b, s.budget = some b → b ≠ 0 ∧ s.running = true ∧ s.fault = none

/-- Command RAM, the register blocks and the state tables are in canonical form (R28, R42, R60). -/
def StorageCanonical (s : State) : Prop :=
  Memory.wf s.cram
    ∧ RegBlock.wf s.reg15 ∧ RegBlock.wf s.reg18 ∧ RegBlock.wf s.reg1A
    ∧ Table.wf Category.viewport.bound s.viewports ∧ Table.wf Category.modelview.bound s.modelviews
    ∧ Table.wf Category.material.bound s.materials ∧ Table.wf Category.texhead.bound s.texheads
    ∧ Table.wf Category.light.bound s.lights ∧ Table.wf Category.lightset.bound s.lightsets

/-! ## Runs -/

/-- The device has not faulted; a faulted state is no result of a run (R294). -/
def Unfaulted (s : State) : Prop := s.fault = none

/-! ## Where a transition stands -/

/-- `s` is inside an `Exec` whose loop runs another instruction, after which `b` units of budget are left (R101). -/
def InExec (s : State) (b : Nat) : Prop := s.budget = some (b + 1) ∧ s.running = true ∧ s.fault = none

/-- The next transition is the host operation `op`, on a device that has not faulted (R250). -/
def HostCalls (s : State) (op : HostOp) (rest : List HostOp) : Prop :=
  s.budget = none ∧ s.fault = none ∧ s.inputs = op :: rest

/-! ## CP runs (R110) -/

/-- The host operation waiting is a register write that invokes `begin()`: 3 to the start register, or anything to the secondary
busy/control register (R100, R262, R263). -/
def CallsBegin (s : State) : Prop :=
  ∃ addr v rest, HostCalls s (.regWrite addr 4 v) rest
    ∧ ((busDecode s.cfg addr 4 = some (.b15, s.cfg.offStart) ∧ v = 3) ∨ busDecode s.cfg addr 4 = some (.b1A, 0x24))

/-- The host operation waiting is a `Reset` (R109). -/
def CallsReset (s : State) : Prop := ∃ rest, HostCalls s .reset rest

/-- `t` belongs to the CP run that `begin()` started in state `b`: the steps from there on, whatever the host does between its
`Exec`s, up to the next `begin()` or `Reset` (R109, R110). -/
inductive InRun (b : State) : State → Prop where
  | begun {s : State} (calls : CallsBegin s) (hs : step s = .next b) : InRun b b
  | onward {t u : State} (run : InRun b t) (noBegin : ¬ CallsBegin t) (noReset : ¬ CallsReset t) (ht : step t = .next u) :
      InRun b u

/-- The step from `s` to `t` is the last of an `Exec` in which `Complete()` ran: it runs Kill, and neither the instruction nor
the check after it faults (R101, R107, R124). -/
def Completes (s t : State) : Prop := (∃ k, InExec s k) ∧ fetch s = .ok .kill ∧ step s = .next t ∧ t.fault = none

/-- The run begun in `b` has ended normally, by the return of an `Exec` in state `t`, after `Complete()` ran in that `Exec`
(R110). -/
def EndedNormally (b t : State) : Prop := ∃ s, InRun b s ∧ Completes s t

/-- The run begun in `b` has ended abnormally (R110). -/
def EndedAbnormally (b t : State) : Prop := InRun b t ∧ t.fault ≠ none

/-- The run begun in `b` has not ended, however many `Exec`s returned (R108, R110). -/
def NotEnded (b t : State) : Prop := InRun b t ∧ Unfaulted t ∧ t.running = true

/-- The outputs of a run that has ended normally (R110). -/
structure RunOutputs where
  triOut     : List Triangle
  cram       : Memory
  reg15      : RegBlock
  reg18      : RegBlock
  reg1A      : RegBlock
  viewports  : Table Viewport
  modelviews : Table Modelview
  materials  : Table Material
  texheads   : Table Texhead
  lights     : Table Light
  lightsets  : Table Lightset
  deriving DecidableEq, Repr

/-- What a state holds of the outputs of a run (R110). -/
def runOutputs (t : State) : RunOutputs :=
  { triOut := t.triOut, cram := t.cram, reg15 := t.reg15, reg18 := t.reg18, reg1A := t.reg1A
    viewports := t.viewports, modelviews := t.modelviews, materials := t.materials, texheads := t.texheads
    lights := t.lights, lightsets := t.lightsets }

/-! ## What the statements compute with -/

/-- The `n` bytes of command RAM from `a` on. -/
def bytesAt (s : State) (a : Word) (n : Nat) : List Byte :=
  (List.range n).map fun j => s.readByte (a + BitVec.ofNat 32 j)

/-- The opcode at the pc is `m`'s, and the whole instruction lies in one window (R92, R102). -/
def WholeInstruction (s : State) (m : Mnemonic) : Prop :=
  s.cfg.mnemonicOf (memRead s s.pc) = some m
    ∧ sameWin s.cfg s.pc (s.pc + BitVec.ofNat 32 ((s.cfg.format m).bytes - 4)) = true

/-- An `Exec` that ended in a fault `r`: what was done before it stays (R294). -/
def endedByFault (r : FaultReason) (s : State) : State :=
  { s with fault := some r, budget := none, results := s.results ++ [.done] }

/-- The storage locations of the four bytes of the word at `a` (R60). -/
def wordLocations (c : Cfg) (a : Word) : List Nat :=
  [storageLoc c a, storageLoc c (a + 1), storageLoc c (a + 2), storageLoc c (a + 3)]

/-- The meanings of a list of instructions one after another. -/
def execAll : List Instr → State → Host.Outcome State Fault Refusal
  | [], s => .next s
  | i :: is, s =>
    match exec i s with
    | .next t => execAll is t
    | .fault r => .fault r
    | .refused r => .refused r

/-- `IdmaStep()` of `n` successive `Exec`s. -/
def idmaSteps : Nat → State → State
  | 0, s => s
  | n + 1, s => idmaStep (idmaSteps n s)

/-- The state whose pc alone has moved, `n` bytes on. -/
def movedOn (n : Word) (s : State) : State := { s with pc := s.pc + n }

/-- `LEN_VPSET[k]` in bytes (R9). -/
def vpSetBytes (c : Cfg) (k : Fin 6) : Word :=
  match c.lenVpSet.get k with
  | .f8 => 8
  | .f16 => 16

/-- `LEN_DIAG` in bytes, of the `k`-th diagnostic opcode of rule R91 (R9). -/
def diagBytes (c : Cfg) (k : Fin 18) : Word :=
  match c.lenDiag.get k with
  | .f4 => 4
  | .f8 => 8
  | .f16 => 16

/-- Bit 7 of the main status as `Aggregate()` forces it: set while a cause is (R296). -/
def summaryBit (s : State) : Word := if ∀ i : Fin 4, (s.cause i).getLsbD 0 = false then 0 else 0x80

/-- What `Aggregate()` leaves: the secondary status and the line are functions of the registers (R296). -/
def Aggregated (s : State) : Prop :=
  (∀ i : Fin 4, s.secStatus.getLsbD i.val = (s.cause i).getLsbD 0)
    ∧ s.irqLine = decide (s.mainStatus &&& s.mainMask &&& 0xFF ≠ 0)

/-- The bits of the word at a location that completion processing keeps: all but those of `BUSY_BITS` there (R39, R107). -/
def keptByCompletion (c : Cfg) (b : Block) (o : Nat) : Word :=
  (if c.busy0.block = b ∧ c.busy0.offset = o then ~~~c.busy0.mask else 0xFFFFFFFF)
    &&& (if c.busy1.block = b ∧ c.busy1.offset = o then ~~~c.busy1.mask else 0xFFFFFFFF)

/-- Whether a location is the main status or a cause register: those that `IrqRaise` writes (R297). -/
def raisedRegister (b : Block) (o : Nat) : Prop := (b, o) = (.b15, 0x88) ∨ ∃ i : Fin 4, (b, o) = (.b1A, 0x08 + 4 * i.val)

/-- The value of a finite binary32 pattern, in units of 2^-149 (R190). -/
def f32Value (w : F32) : Int := if f32Sign w then -(f32Units w : Int) else f32Units w

/-- Whether a declared location is plain storage: none of those that R252 and R256 to R263 name. -/
def plainRegister (c : Cfg) : Block → Nat → Bool
  | .b15, o => decide (o ≠ 0x84 ∧ o ≠ 0x88 ∧ o ≠ c.offStart)
  | .b18, o => decide (o ≠ 0)
  | .b1A, o => decide (o ∉ [0x08, 0x0C, 0x10, 0x14, 0x18, 0x24, c.offSegaId])

/-! ## `Exec` as one operation (R101, R102) -/

/-- `Step()` as rule R102 writes it, with whether it returned `Terminal`. -/
def stepOnce (s : State) : Bool × State :=
  match fetch s with
  | .error r => (false, raise r s)
  | .ok i =>
    match exec i s with
    | .next t => (i.isTerminal, checkInvariant t)
    | _ => (false, s)

/-- The loop of rule R101. -/
def execLoop : Nat → State → State
  | 0, s => s
  | b + 1, s =>
    if s.running then
      let r := stepOnce s
      if r.2.fault.isSome then r.2
      else if r.1 then complete r.2
      else execLoop b r.2
    else s

/-- `Exec(cycles)` of rule R101. -/
def execOperation (cycles : Nat) (s : State) : State :=
  match s.fault with
  | some _ => s
  | none =>
    let t := idmaStep s
    if t.fault.isSome then t else execLoop cycles t

end Sys2Proof.Machine
end

