-- ==== Sys2Proof/Certificates/Slice0/Obligations.lean ====
section
/-! DEFINITION. The statements for the provers. A state `s` is any state, so its configuration `s.cfg` is any configuration
(R9); a statement that needs the constraints of rule R9 has `cfg.wf` as a premise. -/

open Sys2Proof Sys2Proof.Machine

/-! ## Encoding -/

/-- Decoding the words of a well-formed instruction gives it back, and leaves the words after it (R92). -/
def Obligations.DecodeInvertsEncode : Prop :=
  ∀ (c : Cfg) (i : Instr) (rest : List Word), c.wf = true → i.wf c = true →
    c.decode (c.encode i ++ rest) = .ok (i, rest)

/-- What the decoder accepts is well formed, and it takes as many words as the mnemonic's length says (R82, R84, R92). -/
def Obligations.DecodedIsWellFormed : Prop :=
  ∀ (c : Cfg) (ws rest : List Word) (i : Instr), c.decode ws = .ok (i, rest) →
    i.wf c = true ∧ ws.drop (c.format i.mnemonic).words = rest ∧ (c.format i.mnemonic).words ≤ ws.length

/-- The mnemonic of a first word is the one whose opcode its low 12 bits are; no other bit takes part (R81, R89, R92). -/
def Obligations.OpcodeNamesTheMnemonic : Prop :=
  ∀ (c : Cfg) (w0 : Word) (m : Mnemonic), c.wf = true →
    (c.mnemonicOf w0 = some m ↔ c.opcode m = w0.extractLsb' 0 12)

/-- Nop is the all-zero word, and another word with opcode `0x000` violates its reserved bits (R90). -/
def Obligations.NopIsTheZeroWord : Prop :=
  ∀ (c : Cfg) (w0 : Word) (rest : List Word), w0.extractLsb' 0 12 = 0 →
    c.decode (w0 :: rest) = if w0 = 0 then .ok (.nop, rest) else .error (.reservedBits .NOP 0 w0)

/-- A few words of the spec decode, under EXCFG, to the instructions it says. -/
def Obligations.SpecWordsDecode : Prop :=
  decodeTableWord 32 0x00000000 = some .nop
    ∧ decodeTableWord 64 0x1200004000000F01 = some (.jump 0x12000040)
    ∧ decodeTableWord 64 0x1300004000000F02 = some (.call 0x13000040)
    ∧ decodeTableWord 32 0x00003F16 = some (.vpCommit 3)
    ∧ decodeTableWord 128 0x80000000000000003F80000000080F40 =
        some (.mtxSet0 0 0 2 0x3F800000 0x00000000 0x80000000)
    ∧ decodeTableWord 128 0x3F80000043F000004420000000000F50 = some (.vtx3f0 0x44200000 0x43F00000 0x3F800000)
    ∧ decodeTableWord 128 0x01000100000000000200010000000F70 = some (.texCoord0 0x02000100 0 0x01000100)
    ∧ decodeTableWord 64 0x0000000000000303 = some (.diag303 [0])
    ∧ decodeTableWord 32 0x00001000 = none
    ∧ decodeTableWord 32 0x00000FFF = none

/-! ## Fetch, decode and the checks of a step -/

/-- An opcode that is no mnemonic's is fatal; nothing else is fetched or checked (R89, R102, R294). That an `Exec` ended by a
fault records the result `done` is the model's choice (log entry 3). -/
def Obligations.UnknownOpcodeFaults : Prop :=
  ∀ (s : State) (b : Nat), InExec s b → (∀ m : Mnemonic, s.cfg.opcode m ≠ (memRead s s.pc).extractLsb' 0 12) →
    step s = .next (endedByFault (.unknownOpcode s.pc (memRead s s.pc)) s)

/-- An instruction that straddles the end of a window is fatal, before its other words are read (R102); in a whole instruction
the first word with a reserved bit set is fatal, before any effect (R84, R105). That an `Exec` ended by a fault records the
result `done` is the model's choice (log entry 3). -/
def Obligations.FetchAndReservedBitsFault : Prop :=
  ∀ (s : State) (b : Nat) (m : Mnemonic), InExec s b →
    (s.cfg.mnemonicOf (memRead s s.pc) = some m →
      sameWin s.cfg s.pc (s.pc + BitVec.ofNat 32 ((s.cfg.format m).bytes - 4)) = false →
      step s = .next (endedByFault (.fetchOutOfWindow s.pc m) s))
    ∧ ∀ j : Nat, WholeInstruction s m → j < (s.cfg.format m).words →
        memRead s (s.pc + BitVec.ofNat 32 (4 * j)) &&& s.cfg.reserved m j ≠ 0 →
        (∀ k < j, memRead s (s.pc + BitVec.ofNat 32 (4 * k)) &&& s.cfg.reserved m k = 0) →
        step s = .next (endedByFault (.reservedBits m j (memRead s (s.pc + BitVec.ofNat 32 (4 * j))) s.pc) s)

/-- A step inside an `Exec` runs the instruction that the bytes at the pc decode to, then makes the invariant check, completion
processing after a Kill, and the loop's test (R101, R102). -/
def Obligations.StepRunsDecodedInstruction : Prop :=
  ∀ (s : State) (b : Nat) (m : Mnemonic) (i : Instr), InExec s b → WholeInstruction s m →
    s.cfg.decodeBytes (bytesAt s s.pc (s.cfg.format m).bytes) = .ok (i, []) →
    step s = match exec i s with
      | .next t => .next (afterExecute i b t)
      | .fault r => .fault r
      | .refused r => .refused r

/-- After an instruction the pc is checked first, then each stack pointer; a failed check ends the `Exec`, with no completion
processing even after a Kill (R106, R124, R295). That an `Exec` ended by a fault records the result `done` is the model's choice
(log entry 3). -/
def Obligations.InvariantCheckFaultsInOrder : Prop :=
  ∀ (s t : State) (b : Nat) (i : Instr), InExec s b → fetch s = .ok i → exec i s = .next t → t.fault = none →
    (codeAddress t.cfg t.pc = false → step s = .next (endedByFault (.pcOutOfWindow t.pc) t))
      ∧ (codeAddress t.cfg t.pc = true → codeAddress t.cfg (t.sp.get 0) = false →
          step s = .next (endedByFault (.spOutOfWindow 0 (t.sp.get 0)) t))
      ∧ (codeAddress t.cfg t.pc = true → codeAddress t.cfg (t.sp.get 0) = true → codeAddress t.cfg (t.sp.get 1) = false →
          step s = .next (endedByFault (.spOutOfWindow 1 (t.sp.get 1)) t))

/-! ## Control instructions -/

/-- NOP moves the pc on by 4, and CLEAR_A and CLEAR_B by 8; nothing else changes (R120, R126, R127). -/
def Obligations.NopAndClearOnlyAdvance : Prop :=
  ∀ (s : State) (w1 : Word),
    exec .nop s = .next (movedOn 4 s)
      ∧ exec (.clearA w1) s = .next (movedOn 8 s)
      ∧ exec (.clearB w1) s = .next (movedOn 8 s)

/-- JUMP to four times its operand word, if that lies in the 4 MiB at `0x48000000`; otherwise the fault that names the target,
the pc staying where it was (R121, R85). -/
def Obligations.JumpTakesItsTarget : Prop :=
  ∀ (s : State) (w1 : Word), s.fault = none →
    exec (.jump w1) s = .next
      (if 0x48000000 ≤ (w1 * 4).toNat ∧ (w1 * 4).toNat < 0x48400000 then { s with pc := w1 * 4 }
        else { s with fault := some (.targetOutOfWindow .JUMP (w1 * 4) s.pc) })

/-- CALL stores its own address at the active stack pointer and moves that pointer down a word in its low 24 bits; then it
goes to four times its operand word if that lies in the 4 MiB at `WC_BASE`, and otherwise faults with the push kept (R122,
R302). Which byte stays where two of the pushed bytes have one location is the model's choice (log entry 18). -/
def Obligations.CallPushesAndJumps : Prop :=
  ∀ (s : State) (w1 : Word), s.fault = none →
    let a := s.sp.get s.parity
    let pushed := { memWrite a s.pc s with sp := s.sp.set s.parity ((a &&& 0xFF000000) ||| ((a - 4) &&& 0x00FFFFFF)) }
    exec (.call w1) s = .next
      (if s.cfg.wcBase.toNat ≤ (w1 * 4).toNat ∧ (w1 * 4).toNat < s.cfg.wcBase.toNat + 0x400000 then
          { pushed with pc := w1 * 4 }
        else { pushed with fault := some (.targetOutOfWindow .CALL (w1 * 4) s.pc) })

/-- CALL stores to the word at the active stack pointer alone: every other byte of command RAM reads as before, and that word
reads the address of the CALL (R64, R122). -/
def Obligations.CallStoresOneWord : Prop :=
  ∀ (s t : State) (w1 : Word), exec (.call w1) s = .next t →
    (∀ a : Word, storageLoc s.cfg a ∉ wordLocations s.cfg (s.sp.get s.parity) → t.readByte a = s.readByte a)
      ∧ ((wordLocations s.cfg (s.sp.get s.parity)).Nodup → memRead t (s.sp.get s.parity) = s.pc)

/-- RET moves the active stack pointer up a word in its low 24 bits, and goes 8 past the word there (R123). -/
def Obligations.RetPopsItsReturnAddress : Prop :=
  ∀ s : State,
    let a := ((s.sp.get s.parity) &&& 0xFF000000) ||| (((s.sp.get s.parity) + 4) &&& 0x00FFFFFF)
    exec .ret s = .next { s with sp := s.sp.set s.parity a, pc := memRead s a + 8 }

/-- A RET right after a CALL comes back to the instruction after the CALL, with the stack pointers as they were (R122, R123). -/
def Obligations.CallThenRetReturns : Prop :=
  ∀ (s : State) (w1 : Word), inWc s.cfg (w1 * 4) = true → (wordLocations s.cfg (s.sp.get s.parity)).Nodup →
    ∃ t, execAll [.call w1, .ret] s = .next t ∧ t.pc = s.pc + 8 ∧ t.sp = s.sp

/-- KILL stops the CP and moves the pc on by 4. The step that runs it ends the `Exec`, whatever its budget, with completion
processing done (R107, R124). A run has ended normally exactly by a step inside an `Exec` that leaves the CP stopped and
unfaulted, and that step's state is the one completion processing leaves; a run that has not ended has a running, unfaulted CP
(R110). The recorded result is log entry 3's. -/
def Obligations.KillEndsTheExec : Prop :=
  (∀ s : State, exec .kill s = .next { s with running := false, pc := s.pc + 4 })
    ∧ (∀ (s : State) (b : Nat), InExec s b → fetch s = .ok .kill → codeAddress s.cfg (s.pc + 4) = true →
      codeAddress s.cfg (s.sp.get 0) = true → codeAddress s.cfg (s.sp.get 1) = true →
      step s = .next { complete { s with running := false, pc := s.pc + 4 } with
        budget := none, results := s.results ++ [.done] })
    ∧ (∀ (b s t : State) (k : Nat), InRun b s → InExec s k → step s = .next t → t.running = false → t.fault = none →
        EndedNormally b t)
    ∧ (∀ b t : State, EndedNormally b t → ∃ s, InRun b s
        ∧ t = { complete { s with running := false, pc := s.pc + 4 } with
                budget := none, results := s.results ++ [.done] }
        ∧ t.running = false ∧ t.fault = none ∧ t.budget = none)
    ∧ ∀ b t : State, NotEnded b t → ¬ EndedNormally b t ∧ ¬ EndedAbnormally b t

/-- Completion processing clears both busy bits wherever they lie, then ORs the completion pair into the status and the causes
and aggregates; no other bit of a register changes, and nothing else of the state (R107, R296, R297). -/
def Obligations.CompletionClearsBusyAndRaises : Prop :=
  ∀ s : State,
    let c := s.cfg
    let t := complete s
    t.mainStatus = (s.mainStatus &&& keptByCompletion c .b15 0x88) ||| c.cpDoneMain.setWidth 32 ||| summaryBit t
      ∧ (∀ i : Fin 4, t.cause i =
          if c.cpDoneSec.getLsbD i.val then (s.cause i &&& keptByCompletion c .b1A (0x08 + 4 * i.val)) ||| 1
          else s.cause i &&& keptByCompletion c .b1A (0x08 + 4 * i.val))
      ∧ (∀ b o, ¬ raisedRegister b o → t.reg b o = s.reg b o &&& keptByCompletion c b o)
      ∧ Aggregated t
      ∧ t = { s with reg15 := t.reg15, reg18 := t.reg18, reg1A := t.reg1A, secStatus := t.secStatus, irqLine := t.irqLine }

/-- SYNC moves the pc on by 4 if its four fields are a legal combination, and otherwise faults; it does nothing else
(R125). How the fault packs the four fields is the model's choice (log entry 7). -/
def Obligations.SyncAdvancesOrFaults : Prop :=
  ∀ (s : State) (s0 s1 s2 s3 : BitVec 2), s.fault = none →
    exec (.sync s0 s1 s2 s3) s = .next
      (if s3 ++ s2 ++ s1 ++ s0 ∈ s.cfg.syncIllegal then
          { s with fault := some (.badField .SYNC .s0123 ((s3 ++ s2 ++ s1 ++ s0).setWidth 32) s.pc) }
        else movedOn 4 s)

/-! ## Viewport instructions -/

/-- `VP_SET_k` stores the words of the instruction as part `k` of the viewport scratch and moves on by its length; nothing
else changes (R143 to R149). -/
def Obligations.VpSetWritesItsPart : Prop :=
  ∀ (s : State) (attr : BitVec 20) (ws : List Word),
    let c := s.cfg
    let with_ := fun (k : Fin 6) (op : Opcode) =>
      { s with vpScratch := s.vpScratch.set k (some ((attr ++ op : Word) :: ws)), pc := s.pc + vpSetBytes c k }
    exec (.vpSet0 attr ws) s = .next (with_ 0 (c.opcode .VP_SET_0))
      ∧ exec (.vpSet1 attr ws) s = .next (with_ 1 (c.opcode .VP_SET_1))
      ∧ exec (.vpSet2 attr ws) s = .next (with_ 2 (c.opcode .VP_SET_2))
      ∧ exec (.vpSet3 attr ws) s = .next (with_ 3 (c.opcode .VP_SET_3))
      ∧ exec (.vpSet4 attr ws) s = .next (with_ 4 (c.opcode .VP_SET_4))
      ∧ exec (.vpSet5 attr ws) s = .next (with_ 5 (c.opcode .VP_SET_5))

/-- VP_COMMIT with `n` not 0 copies the whole scratch into slot `n`, marks it committed and moves on by 4; every other slot,
the scratch and the rest of the state stay. With `n = 0` it faults (R141, R150). -/
def Obligations.VpCommitCopiesTheScratch : Prop :=
  ∀ (s : State) (n : BitVec 3),
    (n ≠ 0 → ∃ t, exec (.vpCommit n) s = .next t
      ∧ t = { s with viewports := t.viewports, pc := s.pc + 4 }
      ∧ Table.get t.viewports n.toNat = ⟨true, some s.vpScratch⟩
      ∧ ∀ j, j ≠ n.toNat → Table.get t.viewports j = Table.get s.viewports j)
    ∧ (n = 0 → s.fault = none →
        exec (.vpCommit n) s = .next { s with fault := some (.badField .VP_COMMIT .n 0 s.pc) })

/-- A committed slot holds the last words set before the commit, and a later Set does not reach it (R141). -/
def Obligations.CommittedSlotKeepsItsCopy : Prop :=
  ∀ (s : State) (a1 a2 a3 : BitVec 20) (w1 w2 w3 : List Word) (n : BitVec 3), n ≠ 0 →
    ∃ t v, execAll [.vpSet0 a1 w1, .vpSet0 a2 w2, .vpCommit n, .vpSet0 a3 w3] s = .next t
      ∧ Table.get t.viewports n.toNat = ⟨true, some v⟩
      ∧ v.get 0 = some ((a2 ++ s.cfg.opcode .VP_SET_0 : Word) :: w2)
      ∧ t.vpScratch.get 0 = some ((a3 ++ s.cfg.opcode .VP_SET_0 : Word) :: w3)
      ∧ ∀ k : Fin 6, k ≠ 0 → v.get k = s.vpScratch.get k

/-! ## Color, texture and matrix instructions -/

/-- The color, texture and Recall instructions and Matrix Commit move the pc on by their length and change nothing else: no
scratch, no slot (R142, R151, R160 to R172, R185). -/
def Obligations.ColorTextureAndRecallsOnlyAdvance : Prop :=
  ∀ (s : State) (attr : BitVec 20) (w1 p q : Word) (index : BitVec 3),
    exec (.colorSet0 attr w1) s = .next (movedOn 8 s)
      ∧ exec (.colorSet2 attr w1) s = .next (movedOn 8 s)
      ∧ exec (.colorSet4 attr w1) s = .next (movedOn 8 s)
      ∧ exec (.colorSet6 attr w1) s = .next (movedOn 8 s)
      ∧ exec (.colorCommit p q) s = .next (movedOn 4 s)
      ∧ exec (.colorRecall p q) s = .next (movedOn 4 s)
      ∧ exec (.texSet0 attr) s = .next (movedOn 4 s)
      ∧ exec (.texSet2 attr) s = .next (movedOn 4 s)
      ∧ exec (.texSet4 attr) s = .next (movedOn 4 s)
      ∧ exec (.texCommit attr) s = .next (movedOn 4 s)
      ∧ exec (.texRecall attr) s = .next (movedOn 4 s)
      ∧ exec (.vpRecall w1 p q) s = .next (movedOn 4 s)
      ∧ exec (.mtxCommit index) s = .next (movedOn 4 s)

/-- `MTX_SET_v` stores its three operand words, bit for bit, as the row of the modelview scratch that the 2-bit sub-index
names, and moves on by 16; `index` and `mid` have no effect (R180 to R184). -/
def Obligations.MtxSetWritesItsRow : Prop :=
  ∀ (s : State) (index : BitVec 3) (mid sub : BitVec 2) (x y z : Word),
    let t := { s with mvScratch := s.mvScratch.set sub.toFin (some ⟨x, y, z⟩), pc := s.pc + 16 }
    exec (.mtxSet0 index mid sub x y z) s = .next t
      ∧ exec (.mtxSet1 index mid sub x y z) s = .next t
      ∧ exec (.mtxSet2 index mid sub x y z) s = .next t
      ∧ exec (.mtxSet3 index mid sub x y z) s = .next t

/-! ## Vertex instructions -/

/-- `VTX3F_v` writes the normalised position `(x/640, y/480 + 1, z)` at the cursor, moves the cursor on modulo 3 and the pc by
16 (R191, R197 to R201). A NaN that the arithmetic makes is a free value (R193): that it is draw `s.draws` in x and the next
draw in y is the model's choice (log entry 4). -/
def Obligations.Vtx3fAppends : Prop :=
  ∀ (s : State) (x y z : Word),
    let p : Vec3 :=
      ⟨settleF32 s.draws (fdiv32 s.cfg x 0x44200000),
        settleF32 (s.draws + 1) ((fdiv32 s.cfg y 0x43F00000).bind fun q => fadd32 s.cfg q 0x3F800000), z⟩
    let t := { s with
      ring := s.ring.set s.cursor (some p)
      cursor := s.cursor + 1
      draws := s.draws + 2
      pc := s.pc + 16 }
    exec (.vtx3f0 x y z) s = .next t
      ∧ exec (.vtx3f1 x y z) s = .next t
      ∧ exec (.vtx3f2 x y z) s = .next t
      ∧ exec (.vtx3f3 x y z) s = .next t

/-- `VTXN_v` moves the pc on by 32 and changes nothing else (R202 to R210). -/
def Obligations.VtxNOnlyAdvances : Prop :=
  ∀ (s : State) (h0 h1 x y z nx ny nz : Word),
    exec (.vtxN0 h0 h1 x y z nx ny nz) s = .next (movedOn 32 s)
      ∧ exec (.vtxN1 h0 h1 x y z nx ny nz) s = .next (movedOn 32 s)
      ∧ exec (.vtxN2 h0 h1 x y z nx ny nz) s = .next (movedOn 32 s)
      ∧ exec (.vtxN3 h0 h1 x y z nx ny nz) s = .next (movedOn 32 s)
      ∧ exec (.vtxN4 h0 h1 x y z nx ny nz) s = .next (movedOn 32 s)
      ∧ exec (.vtxN5 h0 h1 x y z nx ny nz) s = .next (movedOn 32 s)
      ∧ exec (.vtxN6 h0 h1 x y z nx ny nz) s = .next (movedOn 32 s)
      ∧ exec (.vtxN7 h0 h1 x y z nx ny nz) s = .next (movedOn 32 s)

/-- `TEXCOORD_v` on a full ring hands the rasterizer the three positions, most recent first, each with its UV pair divided by
256, and moves on by 16; the ring and the cursor stay (R192, R196, R211 to R213). Which draw stands for a NaN is the model's
choice (log entry 4). -/
def Obligations.TexCoordEmits : Prop :=
  ∀ (s : State) (w1 w2 w3 : Word) (p0 p1 p2 : Vec3),
    s.ring.get (s.cursor - 1) = some p0 → s.ring.get (s.cursor - 2) = some p1 → s.ring.get (s.cursor - 3) = some p2 →
    let uv := fun (n : Nat) (w : Word) =>
      (⟨settleF32 n (fdiv32 s.cfg (uvDecode s.cfg w).u 0x43800000),
        settleF32 (n + 1) (fdiv32 s.cfg (uvDecode s.cfg w).v 0x43800000)⟩ : UV)
    let t := { s with
      triOut := s.triOut ++ [⟨⟨p0, uv s.draws w1⟩, ⟨p1, uv (s.draws + 2) w2⟩, ⟨p2, uv (s.draws + 4) w3⟩⟩]
      draws := s.draws + 6
      pc := s.pc + 16 }
    exec (.texCoord0 w1 w2 w3) s = .next t ∧ exec (.texCoord1 w1 w2 w3) s = .next t

/-- `TEXCOORD_v` with an empty slot faults on the first one, most recent first, and changes nothing else (R192, R213). -/
def Obligations.TexCoordFaultsOnAnEmptySlot : Prop :=
  ∀ (s : State) (w1 w2 w3 : Word) (k : Fin 3), s.fault = none →
    s.ring.get (s.cursor - 1 - k) = none → (∀ j : Fin 3, j < k → s.ring.get (s.cursor - 1 - j) ≠ none) →
    let t := { s with fault := some (.emptyRingSlot (s.cursor - 1 - k) s.pc) }
    exec (.texCoord0 w1 w2 w3) s = .next t ∧ exec (.texCoord1 w1 w2 w3) s = .next t

/-- The spec's worked example: after positions P0, P1, P2, P3 a Tex Coord emits the triangle (P3, P2, P1), each normalised
(R196). Which draws stand for a NaN of each position is the model's choice (log entry 4). -/
def Obligations.FourPositionsThenATriangle : Prop :=
  ∀ (s : State) (p0 p1 p2 p3 : Vec3) (w1 w2 w3 : Word),
    ∃ t u0 u1 u2, execAll
        [.vtx3f0 p0.x p0.y p0.z, .vtx3f1 p1.x p1.y p1.z, .vtx3f2 p2.x p2.y p2.z, .vtx3f3 p3.x p3.y p3.z,
          .texCoord0 w1 w2 w3] s = .next t
      ∧ t.triOut = s.triOut ++
          [⟨⟨normalise s.cfg (s.draws + 6) p3, u0⟩, ⟨normalise s.cfg (s.draws + 4) p2, u1⟩,
            ⟨normalise s.cfg (s.draws + 2) p1, u2⟩⟩]
      ∧ t.cursor = s.cursor + 1 ∧ t.pc = s.pc + 80

/-! ## Number formats -/

/-- The rounding of binary32 results: the finite value chosen for `num / den` units of 2^-149 is no farther from it than any
other finite value, and of two equally near it is the one with an even significand; infinity is chosen exactly from the
midpoint above the largest finite value on. Division and addition give the pattern with the sign of the exact result and the
rounding of its magnitude; where an operand is a NaN, an infinity or a divisor of zero, they give what IEEE-754 gives, a NaN
being `none` (R193). R193 names IEEE-754 and does not write its cases out: those, and the threshold of infinity, are taken from
the standard (log entry 16). -/
def Obligations.RoundingIsNearestEven : Prop :=
  (∀ num den : Nat, 0 < den →
    let off := fun k : Nat => ((f32Units (BitVec.ofNat 32 k) : Int) * den - num).natAbs
    (roundUnits num den < 0x7F800000 →
      ∀ k < 0x7F800000, off (roundUnits num den) ≤ off k
        ∧ (off (roundUnits num den) = off k → k = roundUnits num den ∨ roundUnits num den % 2 = 0))
    ∧ (roundUnits num den = 0x7F800000 ↔ (2 ^ 25 - 1) * 2 ^ 252 * den ≤ num)
    ∧ roundUnits num den ≤ 0x7F800000)
  ∧ (∀ (neg : Bool) (m : Nat), m < 2 ^ 31 → f32Sign (f32Pack neg m) = neg ∧ (f32Pack neg m).toNat % 2 ^ 31 = m)
  ∧ ∀ (c : Cfg) (a b : F32), c.arith = .ieee754 →
    let finite := fun x : F32 => f32Exp x ≠ 255
    let infinite := fun x : F32 => f32Exp x = 255 ∧ f32Frac x = 0
    let nan := fun x : F32 => f32Exp x = 255 ∧ f32Frac x ≠ 0
    let neg := f32Sign a != f32Sign b
    (nan a ∨ nan b → fdiv32 c a b = none ∧ fadd32 c a b = none)
      ∧ (infinite a → infinite b →
          fdiv32 c a b = none ∧ fadd32 c a b = if f32Sign a = f32Sign b then some a else none)
      ∧ (infinite a → finite b → fdiv32 c a b = some (f32Pack neg 0x7F800000) ∧ fadd32 c a b = some a)
      ∧ (finite a → infinite b → fdiv32 c a b = some (f32Pack neg 0) ∧ fadd32 c a b = some b)
      ∧ (finite a → finite b →
          fdiv32 c a b =
              (if f32Units b ≠ 0 then some (f32Pack neg (roundUnits (f32Units a * 2 ^ 149) (f32Units b)))
                else if f32Units a ≠ 0 then some (f32Pack neg 0x7F800000) else none)
            ∧ fadd32 c a b =
              (let sum := f32Value a + f32Value b
               some (f32Pack (decide (sum < 0) || (decide (sum = 0) && f32Sign a && f32Sign b)) (roundUnits sum.natAbs 1))))

/-- `toF32` is exact on every 16-bit integer (R194). -/
def Obligations.HalfWordsConvertExactly : Prop :=
  ∀ h : BitVec 16, f32Units (f32OfHalf h) = h.toNat * 2 ^ 149 ∧ f32Sign (f32OfHalf h) = false
    ∧ f32Exp (f32OfHalf h) < 255

/-! ## Diagnostic instructions -/

/-- Each of the 18 diagnostic instructions moves the pc on by its length and changes nothing else (R220 to R238). -/
def Obligations.DiagOnlyAdvances : Prop :=
  ∀ (s : State) (ws : List Word),
    let t := fun k : Fin 18 => movedOn (diagBytes s.cfg k) s
    exec (.diag101 ws) s = .next (t 0) ∧ exec (.diag301 ws) s = .next (t 1) ∧ exec (.diag501 ws) s = .next (t 2)
      ∧ exec (.diag043 ws) s = .next (t 3) ∧ exec (.diag901 ws) s = .next (t 4) ∧ exec (.diag3A1 ws) s = .next (t 5)
      ∧ exec (.diag5A1 ws) s = .next (t 6) ∧ exec (.diag6D1 ws) s = .next (t 7) ∧ exec (.diag181 ws) s = .next (t 8)
      ∧ exec (.diag303 ws) s = .next (t 9) ∧ exec (.diag104 ws) s = .next (t 10) ∧ exec (.diag051 ws) s = .next (t 11)
      ∧ exec (.diag006 ws) s = .next (t 12) ∧ exec (.diag046 ws) s = .next (t 13) ∧ exec (.diag451 ws) s = .next (t 14)
      ∧ exec (.diag064 ws) s = .next (t 15) ∧ exec (.diag561 ws) s = .next (t 16) ∧ exec (.diagE88 ws) s = .next (t 17)

/-! ## What no instruction does -/

/-- No instruction's meaning changes a register, an interrupt bit, the parity or the configuration, or ends an `Exec` (R24,
R65). -/
def Obligations.NoInstructionChangesARegister : Prop :=
  ∀ (i : Instr) (s t : State), exec i s = .next t →
    t.reg15 = s.reg15 ∧ t.reg18 = s.reg18 ∧ t.reg1A = s.reg1A ∧ t.secStatus = s.secStatus ∧ t.irqLine = s.irqLine
      ∧ t.parity = s.parity ∧ t.cfg = s.cfg ∧ t.powerUp = s.powerUp ∧ t.budget = s.budget ∧ t.inputs = s.inputs
      ∧ t.results = s.results

/-- CALL is the only instruction that stores to command RAM (R64). -/
def Obligations.OnlyCallStores : Prop :=
  ∀ (i : Instr) (s t : State), exec i s = .next t → i.mnemonic ≠ .CALL → ∀ a : Word, t.readByte a = s.readByte a

/-- Only CALL and RET change a stack pointer, and only the active one (R23); only KILL stops the CP, and no instruction starts
it (R25). -/
def Obligations.StackAndRunningChangeOnlyByTheirInstructions : Prop :=
  ∀ (i : Instr) (s t : State), exec i s = .next t →
    (∀ p : Fin 2, p ≠ s.parity → t.sp.get p = s.sp.get p)
      ∧ (i.mnemonic ≠ .CALL → i.mnemonic ≠ .RET → t.sp = s.sp)
      ∧ t.running = (s.running && !i.isTerminal)

/-- The vertex ring and its cursor change only by Vertex 3f, and a triangle is handed out only by Tex Coord (R192, R202). -/
def Obligations.OnlyVertexInstructionsUseTheAssembler : Prop :=
  ∀ (i : Instr) (s t : State), exec i s = .next t →
    (i.mnemonic ∉ [.VTX3F_0, .VTX3F_1, .VTX3F_2, .VTX3F_3] → t.ring = s.ring ∧ t.cursor = s.cursor)
      ∧ (i.mnemonic ∉ [.TEXCOORD_0, .TEXCOORD_1] → t.triOut = s.triOut)

/-- Nothing but a Reset changes the modelview, material, texhead, light and lightset tables, their scratch objects other than
the modelview scratch, or viewport slot 0 (R44 to R48, R150). -/
def Obligations.TablesChangeOnlyByReset : Prop :=
  ∀ s t : State, step s = .next t → ¬ (s.budget = none ∧ s.inputs.head? = some .reset) →
    t.modelviews = s.modelviews ∧ t.materials = s.materials ∧ t.texheads = s.texheads ∧ t.lights = s.lights
      ∧ t.lightsets = s.lightsets ∧ t.matScratch = s.matScratch ∧ t.thScratch = s.thScratch ∧ t.ltScratch = s.ltScratch
      ∧ t.lsScratch = s.lsScratch ∧ Table.get t.viewports 0 = Table.get s.viewports 0

/-- A step adds at most one triangle to those handed out and takes none back; the configuration never changes (R9, R50). -/
def Obligations.TrianglesAreOnlyAdded : Prop :=
  ∀ s t : State, step s = .next t →
    (∃ new, t.triOut = s.triOut ++ new ∧ new.length ≤ 1) ∧ t.cfg = s.cfg

/-- The parity changes only by a SetParity or a Reset (R24). -/
def Obligations.ParityChangesOnlyByTheHost : Prop :=
  ∀ s t : State, step s = .next t → t.parity ≠ s.parity →
    s.budget = none ∧ (s.inputs.head? = some .reset ∨ s.inputs.head? = some (.setParity t.parity))

/-! ## Faults -/

/-- A fault, once recorded, is never cleared or replaced (R27, R294). -/
def Obligations.FaultIsSticky : Prop :=
  ∀ (s t : State) (r : FaultReason), step s = .next t → s.fault = some r → t.fault = some r

/-- A faulted device answers every operation but an access to command RAM with `Faulted` and changes nothing (R250, R294). -/
def Obligations.FaultedDeviceIsQuiescent : Prop :=
  ∀ (s : State) (r : FaultReason) (op : HostOp) (rest : List HostOp),
    s.fault = some r → s.budget = none → s.inputs = op :: rest →
    (∀ a n, op ≠ .cramRead a n) → (∀ a n v, op ≠ .cramWrite a n v) →
    step s = .next { s with inputs := rest, results := s.results ++ [.faulted] }

/-- A step answers a next state, unless it takes the one host call the spec does not allow, a command-RAM access at an address
that is no multiple of its width (R264), which stops the model (log entry 12). -/
def Obligations.StepStopsOnlyOnIllegalCalls : Prop :=
  ∀ s : State, (∃ t, step s = .next t)
    ∨ ∃ a n, a.toNat % n.bytes ≠ 0 ∧ s.budget = none ∧ step s = .fault (.illegalCramAccess a n)
      ∧ (s.inputs.head? = some (.cramRead a n) ∨ ∃ v, s.inputs.head? = some (.cramWrite a n v))

/-! ## Invariants -/

/-- Every step keeps the equations of the interrupt line (R298), and keeps bits 31:8 of the main status and bits 31:1 of the
causes at 0 (R29, R31). -/
def Obligations.StepKeepsInterruptInvariants : Prop :=
  ∀ s t : State, s.cfg.wf = true → step s = .next t →
    (IrqConsistent s → IrqConsistent t) ∧ (IrqBitsConfined s → IrqBitsConfined t)

/-- Every step keeps the pc and both stack pointers in the windows and 4-aligned while the CP runs unfaulted (R22, R23). -/
def Obligations.StepKeepsCodeAddresses : Prop :=
  ∀ s t : State, CodeAddressesHold s → step s = .next t → CodeAddressesHold t

/-- Every step keeps command RAM, the register blocks and the tables in canonical form, with every slot index below its table's
bound (R28, R42, R60). -/
def Obligations.StepKeepsStorageCanonical : Prop :=
  ∀ s t : State, StorageCanonical s → step s = .next t → StorageCanonical t

/-- The state after reset meets the invariants, and its configuration the constraints of rule R9. -/
def Obligations.ResetMeetsTheInvariants : Prop :=
  State.reset.cfg.wf = true ∧ IrqConsistent State.reset ∧ IrqBitsConfined State.reset ∧ CodeAddressesHold State.reset
    ∧ StorageCanonical State.reset ∧ BudgetHolds State.reset

/-! ## Exec -/

/-- Every instruction costs one unit of budget, the host does nothing inside an `Exec`, and an `Exec` goes on only with budget
left on a running, unfaulted CP (R26, R101, R265). That one instruction is one step is the model's choice (log entry 3). -/
def Obligations.EachInstructionCostsOneUnit : Prop :=
  ∀ (s t : State) (b : Nat), InExec s b → step s = .next t →
    t.inputs = s.inputs ∧ (t.budget = none ∨ t.budget = some b) ∧ BudgetHolds t
      ∧ (t.budget = none → t.results = s.results ++ [.done]) ∧ (t.budget ≠ none → t.results = s.results)

/-- The steps of the machine make up `Exec(cycles)` as rule R101 writes it: from the call on, at most `cycles + 1` steps reach
the state that the operation gives, with its result. The split into steps, and that an `Exec` ended by a fault midway records
the result `done`, are the model's choices (log entry 3). -/
def Obligations.StepsMakeUpExec : Prop :=
  ∀ (s : State) (cycles : Nat) (rest : List HostOp), s.budget = none → s.inputs = .exec cycles :: rest →
    ∃ k, 1 ≤ k ∧ k ≤ cycles + 1
      ∧ Host.Core.run Sys2Proof.core k s =
          .next (finish (if s.fault.isSome then .faulted else .done) (execOperation cycles { s with inputs := rest }))

/-! ## The register file -/

/-- An access is valid exactly when the address is classified, the width is 4 and the masked offset is 4-aligned and declared,
and it then names that block and offset (R28, R254, R258); an invalid one answers InvalidAccess and changes nothing (R293). -/
def Obligations.InvalidAccessChangesNothing : Prop :=
  (∀ (c : Cfg) (addr : Word) (n : Nat) (b : Block) (o : Nat),
    busDecode c addr n = some (b, o) ↔
      classify c addr = some b ∧ o = (addr &&& (blockSize c b - 1)).toNat ∧ n = 4 ∧ o % 4 = 0
        ∧ match b with
          | .b15 => o ≤ 0x9C
          | .b18 => o = 0 ∨ o ∈ c.decl18
          | .b1A => o ≤ 0x104 ∨ (0x180 ≤ o ∧ o ≤ 0x1BC) ∨ (0x200 ≤ o ∧ o ≤ 0x23C)
              ∨ (c.fifoOff ≤ o ∧ o ≤ c.fifoOff + 0x0C) ∨ o = c.offSegaId)
  ∧ ∀ (s : State) (addr v : Word) (n : Nat) (rest : List HostOp) (op : HostOp), HostCalls s op rest →
      op = .regRead addr n ∨ op = .regWrite addr n v → (∀ b o, busDecode s.cfg addr n ≠ some (b, o)) →
      step s = .next { s with inputs := rest, results := s.results ++ [.invalidAccess] }

/-- Plain storage: a write is stored and nothing else changes (R255). A read with no `READ_CLEAR` entry returns the stored word and
changes nothing, of plain storage and of the main status, the mask, the causes, the start register and the busy/control
register alike (R29, R30, R31, R37, R38, R251, R255). -/
def Obligations.PlainStorageReadsBack : Prop :=
  ∀ (s : State) (addr v : Word) (b : Block) (o : Nat) (rest : List HostOp),
    busDecode s.cfg addr 4 = some (b, o) →
    (plainRegister s.cfg b o = true → HostCalls s (.regWrite addr 4 v) rest → ∃ t, step s = .next t ∧ t.reg b o = v
      ∧ (∀ b' o', (b', o') ≠ (b, o) → t.reg b' o' = s.reg b' o')
      ∧ t = { s with inputs := rest, results := s.results ++ [.ok], reg15 := t.reg15, reg18 := t.reg18, reg1A := t.reg1A })
    ∧ ((b, o) ≠ (.b18, 0) → (b, o) ≠ (.b1A, 0x18) → (b, o) ≠ (.b1A, s.cfg.offSegaId) →
      HostCalls s (.regRead addr 4) rest → (∀ r ∈ s.cfg.readClear, (r.block, r.offset) ≠ (b, o)) →
      step s = .next { s with inputs := rest, results := s.results ++ [.value (s.reg b o)] })
    ∧ (s.reg .b15 0x88 = s.mainStatus ∧ s.reg .b15 0x84 = s.mainMask
        ∧ ∀ i : Fin 4, s.reg .b1A (0x08 + 4 * i.val) = s.cause i)

/-- A read of a location with a `READ_CLEAR` mask returns the word before, clears the mask's bits, and aggregates; the location
here is a cause register (R251, R253). -/
def Obligations.ReadClearClearsAfterTheRead : Prop :=
  ∀ (s : State) (addr : Word) (i : Fin 4) (mask : Word) (rest : List HostOp), HostCalls s (.regRead addr 4) rest →
    busDecode s.cfg addr 4 = some (.b1A, 0x08 + 4 * i.val) → s.cfg.offSegaId ≠ 0x08 + 4 * i.val →
    s.cfg.readClear = [⟨.b1A, 0x08 + 4 * i.val, mask⟩] →
    ∃ t, step s = .next t ∧ t.results = s.results ++ [.value (s.cause i)] ∧ t.cause i = s.cause i &&& ~~~mask
      ∧ (∀ j, j ≠ i → t.cause j = s.cause j) ∧ Aggregated t ∧ t.mainStatus = s.mainStatus ||| summaryBit t
      ∧ t.mainMask = s.mainMask
      ∧ t = { s with inputs := rest, results := t.results, reg15 := t.reg15, reg1A := t.reg1A, secStatus := t.secStatus,
                     irqLine := t.irqLine }

/-- Block 18 offset 0 reads the constant at every time, and a write to it is ignored (R256). -/
def Obligations.BoardIdIsConstant : Prop :=
  ∀ (s : State) (addr v : Word) (rest : List HostOp), busDecode s.cfg addr 4 = some (.b18, 0) →
    (HostCalls s (.regRead addr 4) rest →
      ∃ t, step s = .next t ∧ t.results = s.results ++ [.value 0x17C711DB])
    ∧ (HostCalls s (.regWrite addr 4 v) rest →
      step s = .next { s with inputs := rest, results := s.results ++ [.ok] })

/-- Block 1A offset `0x18` reads the secondary status, zero-extended, and a write to it is ignored (R257). A write to the "SEGA"
word must be its literal, which is not stored; any other value is fatal. A read of it answers some word, the free value of log
entry 4 (R258). -/
def Obligations.SecondaryStatusAndSegaWord : Prop :=
  ∀ (s : State) (addr v : Word) (rest : List HostOp),
    (busDecode s.cfg addr 4 = some (.b1A, 0x18) →
      (HostCalls s (.regRead addr 4) rest →
        ∃ t, step s = .next t ∧ t.results = s.results ++ [.value (s.secStatus.setWidth 32)])
      ∧ (HostCalls s (.regWrite addr 4 v) rest →
        step s = .next { s with inputs := rest, results := s.results ++ [.ok] }))
    ∧ (busDecode s.cfg addr 4 = some (.b1A, s.cfg.offSegaId) → s.cfg.offSegaId ∉ [0x08, 0x0C, 0x10, 0x14, 0x18, 0x24] →
      (HostCalls s (.regWrite addr 4 v) rest → step s = .next
        (if v = 0x53454741 then { s with inputs := rest, results := s.results ++ [.ok] }
          else { s with inputs := rest, results := s.results ++ [.faulted], fault := some (.badSegaId v) }))
      ∧ (HostCalls s (.regRead addr 4) rest → ∃ t w, step s = .next t ∧ t.results = s.results ++ [.value w]))

/-- A write to the mask stores all 32 bits, one to the status keeps the bits written as 1, one to a cause clears the bits
written as 1; each then aggregates: bit 7 of the status is forced while a cause is set, and the secondary status and the line
follow (R259, R260, R261, R296). -/
def Obligations.InterruptRegisterWrites : Prop :=
  ∀ (s : State) (addr v : Word) (b : Block) (o : Nat) (rest : List HostOp), HostCalls s (.regWrite addr 4 v) rest →
    busDecode s.cfg addr 4 = some (b, o) →
    ((b, o) = (.b15, 0x84) ∨ (b, o) = (.b15, 0x88) ∨ ∃ i : Fin 4, (b, o) = (.b1A, 0x08 + 4 * i.val)) →
    ∃ t, step s = .next t ∧ Aggregated t
      ∧ ((b, o) = (.b15, 0x84) → t.mainMask = v ∧ t.mainStatus = s.mainStatus ||| summaryBit s)
      ∧ ((b, o) = (.b15, 0x88) → t.mainMask = s.mainMask ∧ t.mainStatus = (s.mainStatus &&& v) ||| summaryBit s)
      ∧ (∀ i : Fin 4, (b, o) = (.b1A, 0x08 + 4 * i.val) →
          t.cause i = s.cause i &&& ~~~v ∧ t.mainMask = s.mainMask ∧ t.mainStatus = s.mainStatus ||| summaryBit t)
      ∧ (∀ b' o', (b', o') ≠ (b, o) → (b', o') ≠ (.b15, 0x88) → t.reg b' o' = s.reg b' o')
      ∧ t = { s with inputs := rest, results := s.results ++ [.ok], reg15 := t.reg15, reg1A := t.reg1A,
                     secStatus := t.secStatus, irqLine := t.irqLine }

/-- A write of 3 to the start register, or of anything to the secondary busy/control register, stores the value and starts the
CP from its seeds with an empty ring, if the seeds are in the windows and 4-aligned; any other value of the start register
is stored and starts nothing (R100, R262, R263). -/
def Obligations.StartWritesBegin : Prop :=
  ∀ (s : State) (addr v : Word) (b : Block) (o : Nat) (rest : List HostOp), s.cfg.wf = true →
    HostCalls s (.regWrite addr 4 v) rest → busDecode s.cfg addr 4 = some (b, o) →
    ((b, o) = (.b15, s.cfg.offStart) ∨ (b, o) = (.b1A, 0x24)) →
    let pcSeed := s.reg .b15 s.cfg.offPcSeed
    let sp0 := s.reg .b15 s.cfg.offSp0Seed
    let sp1 := s.reg .b15 s.cfg.offSp1Seed
    let stored := setReg b o v { s with inputs := rest }
    (b = .b15 → v ≠ 3 → step s = .next { stored with results := s.results ++ [.ok] })
    ∧ (b = .b1A ∨ v = 3 →
        (codeAddress s.cfg pcSeed = true ∧ codeAddress s.cfg sp0 = true ∧ codeAddress s.cfg sp1 = true →
          step s = .next { stored with
            pc := pcSeed, sp := #v[sp0, sp1], running := true, ring := #v[none, none, none], cursor := 0
            results := s.results ++ [.ok] })
        ∧ (¬ (codeAddress s.cfg pcSeed = true ∧ codeAddress s.cfg sp0 = true ∧ codeAddress s.cfg sp1 = true) →
          ∃ t, step s = .next t ∧ t.fault ≠ none ∧ t.results = s.results ++ [.faulted]))

/-! ## The interrupt controller -/

/-- `Aggregate()` writes nothing but status bit 7, the secondary status and the line, and running it twice is running it once
(R296). `IrqRaise(main, sec)` ORs its bits into the status and the causes and aggregates, and raising the same bits twice is
raising them once (R297). -/
def Obligations.AggregateAndIrqRaise : Prop :=
  ∀ (s : State) (main : BitVec 8) (sec : BitVec 4),
    let a := aggregate s
    let t := irqRaise main sec s
    (Aggregated a ∧ a.mainStatus = s.mainStatus ||| summaryBit s
      ∧ (∀ b o, (b, o) ≠ (.b15, 0x88) → a.reg b o = s.reg b o)
      ∧ a = { s with reg15 := a.reg15, secStatus := a.secStatus, irqLine := a.irqLine }
      ∧ aggregate a = a)
    ∧ t.mainStatus = s.mainStatus ||| main.setWidth 32 ||| summaryBit t
    ∧ (∀ i : Fin 4, t.cause i = if sec.getLsbD i.val then s.cause i ||| 1 else s.cause i)
    ∧ Aggregated t
    ∧ (∀ b o, (b, o) ≠ (.b15, 0x88) → (b, o) ∉ [(.b1A, 0x08), (.b1A, 0x0C), (.b1A, 0x10), (.b1A, 0x14)] →
        t.reg b o = s.reg b o)
    ∧ t = { s with reg15 := t.reg15, reg1A := t.reg1A, secStatus := t.secStatus, irqLine := t.irqLine }
    ∧ irqRaise main sec t = t

/-! ## The indirect DMA stepper -/

/-- `IdmaStep()`: nothing with count 0; a fault on an unmarked or misaligned address, either reason when both fail, which leaves
all but the fault (and the model's counter of draws, log entry 4); nothing on an entry of length 0; else the address moves on
16 and the count down 1, and no other register changes, but that the last entry raises the DMA completion pair and aggregates
(R281, R282, R283, R295, R297). -/
def Obligations.IdmaStepFollowsItsRule : Prop :=
  ∀ s : State, s.cfg.wf = true → s.fault = none →
    let a := s.idmaAddr
    let t := idmaStep s
    let marked := a.extractLsb' 24 8 = s.cfg.idmaMarker
    let aligned := a &&& 3 = 0
    (s.idmaCount = 0 → t = s)
      ∧ (s.idmaCount ≠ 0 → ¬ (marked ∧ aligned) → t = { s with fault := t.fault, draws := t.draws })
      ∧ (s.idmaCount ≠ 0 → ¬ marked → aligned → t.fault = some (.idmaBadMarker a))
      ∧ (s.idmaCount ≠ 0 → marked → ¬ aligned → t.fault = some (.idmaMisaligned a))
      ∧ (s.idmaCount ≠ 0 → ¬ marked → ¬ aligned → t.fault = some (.idmaBadMarker a) ∨ t.fault = some (.idmaMisaligned a))
      ∧ (s.idmaCount ≠ 0 → marked → aligned → memRead s (a + 4) = 0 → t = s)
      ∧ (s.idmaCount ≠ 0 → marked → aligned → memRead s (a + 4) ≠ 0 →
          t.idmaAddr = a + 16 ∧ t.idmaCount = s.idmaCount - 1
            ∧ t = { s with reg15 := t.reg15, reg1A := t.reg1A, secStatus := t.secStatus, irqLine := t.irqLine }
            ∧ (∀ b o, (b, o) ≠ (.b15, s.cfg.offIdmaAddr) → (b, o) ≠ (.b15, s.cfg.offIdmaCount) → ¬ raisedRegister b o →
                t.reg b o = s.reg b o)
            ∧ (s.idmaCount ≠ 1 → t.mainStatus = s.mainStatus ∧ t.reg1A = s.reg1A ∧ t.secStatus = s.secStatus
                ∧ t.irqLine = s.irqLine)
            ∧ (s.idmaCount = 1 →
                t.mainStatus = s.mainStatus ||| s.cfg.dmaDoneMain.setWidth 32 ||| summaryBit t
                ∧ (∀ i : Fin 4, t.cause i = if s.cfg.dmaDoneSec.getLsbD i.val then s.cause i ||| 1 else s.cause i)
                ∧ Aggregated t))

/-- The source's worked property: with `k` well-formed entries the count reaches 0 in exactly `k` steps, and the completion
interrupt is raised by the last of them and by no other (R282). -/
def Obligations.IdmaWalkTakesOneStepPerEntry : Prop :=
  ∀ (s : State) (k : Nat), s.cfg.wf = true → s.fault = none → 0 < k → k < 2 ^ 32 → s.idmaCount = BitVec.ofNat 32 k →
    (∀ j < k, idmaMarked s.cfg (s.idmaAddr + BitVec.ofNat 32 (16 * j)) = true) → aligned4 s.idmaAddr = true →
    (∀ j < k, memRead s (s.idmaAddr + BitVec.ofNat 32 (16 * j) + 4) ≠ 0) →
    (∀ n ≤ k, (idmaSteps n s).idmaCount = BitVec.ofNat 32 (k - n)
        ∧ (idmaSteps n s).idmaAddr = s.idmaAddr + BitVec.ofNat 32 (16 * n) ∧ (idmaSteps n s).fault = none)
      ∧ (∀ n < k, (idmaSteps n s).mainStatus = s.mainStatus ∧ (idmaSteps n s).reg1A = s.reg1A
          ∧ (idmaSteps n s).irqLine = s.irqLine ∧ (idmaSteps n s).secStatus = s.secStatus)
      ∧ (idmaSteps k s).mainStatus &&& s.cfg.dmaDoneMain.setWidth 32 = s.cfg.dmaDoneMain.setWidth 32
      ∧ (∀ i : Fin 4, s.cfg.dmaDoneSec.getLsbD i.val = true → ((idmaSteps k s).cause i).getLsbD 0 = true)
      ∧ Aggregated (idmaSteps k s)
      ∧ idmaSteps (k + 1) s = idmaSteps k s

/-! ## Other host operations -/

/-- `SetParity(p)` sets the parity and changes nothing else, whether or not the CP runs; the next Call or Return uses `sp[p]`
(R267). -/
def Obligations.SetParitySelectsTheStack : Prop :=
  ∀ (s : State) (p : Fin 2) (rest : List HostOp), HostCalls s (.setParity p) rest →
    ∃ t, step s = .next t ∧ t = { s with parity := p, inputs := rest, results := s.results ++ [.done] }
      ∧ t.activeSp = s.sp.get p

/-- `Reset()` puts the CP, the registers, the interrupt outputs, every table and every scratch object at their reset values,
and leaves command RAM and the triangles handed out (R320, R321). -/
def Obligations.ResetClearsTheDevice : Prop :=
  ∀ (s : State) (rest : List HostOp), HostCalls s .reset rest →
    ∃ t, step s = .next t ∧ t.cram = s.cram ∧ t.triOut = s.triOut ∧ t.fault = none
      ∧ (∀ b o, t.reg b o = 0) ∧ t.secStatus = 0 ∧ t.irqLine = false
      ∧ t.running = false ∧ t.pc = 0 ∧ (∀ p : Fin 2, t.sp.get p = 0) ∧ t.parity = 0
      ∧ (∀ i, Table.get t.viewports i = ⟨false, none⟩ ∧ Table.get t.modelviews i = ⟨false, none⟩
          ∧ Table.get t.materials i = ⟨false, none⟩ ∧ Table.get t.texheads i = ⟨false, none⟩
          ∧ Table.get t.lights i = ⟨false, none⟩ ∧ Table.get t.lightsets i = ⟨false, none⟩)
      ∧ (∀ k : Fin 6, t.vpScratch.get k = none) ∧ (∀ r : Fin 4, t.mvScratch.get r = none)
      ∧ t.matScratch = ⟨none, none, none, none⟩ ∧ t.thScratch = ⟨none, none, none, none⟩
      ∧ t.ltScratch = ⟨none, none, none⟩ ∧ t.lsScratch = ⟨none, none, none, none, none⟩
      ∧ (∀ k : Fin 3, t.ring.get k = none) ∧ t.cursor = 0
      ∧ t.inputs = rest ∧ t.results = s.results ++ [.done] ∧ t.cfg = s.cfg

/-- The host reads and writes command RAM on any device, faulted or not: a write stores its bytes, in the byte order of command
RAM, and no other; a read changes nothing (R61, R264). The bytes written have
storage of their own. Under the decided byte order a word is its four bytes, the lowest address least significant. -/
def Obligations.HostAccessesToCommandRam : Prop :=
  ∀ (s : State) (a v : Word) (rest : List HostOp), s.budget = none →
    (s.cfg.cramEndian = .little →
      (memRead s a).toNat = (s.readByte a).toNat + (s.readByte (a + 1)).toNat * 2 ^ 8
        + (s.readByte (a + 2)).toNat * 2 ^ 16 + (s.readByte (a + 3)).toNat * 2 ^ 24)
    ∧ (s.inputs = .cramRead a .four :: rest → a.toNat % 4 = 0 →
      step s = .next { s with inputs := rest, results := s.results ++ [.value (memRead s a)] })
    ∧ (s.inputs = .cramRead a .two :: rest → a.toNat % 2 = 0 → s.cfg.cramEndian = .little →
      step s = .next { s with
        inputs := rest
        results := s.results ++ [.value ((s.readByte (a + 1) ++ s.readByte a).setWidth 32)] })
    ∧ (s.inputs = .cramRead a .one :: rest →
      step s = .next { s with inputs := rest, results := s.results ++ [.value ((s.readByte a).setWidth 32)] })
    ∧ (s.inputs = .cramWrite a .four v :: rest → a.toNat % 4 = 0 → (wordLocations s.cfg a).Nodup →
      ∃ t, step s = .next t ∧ memRead t a = v
        ∧ (∀ x : Word, storageLoc s.cfg x ∉ wordLocations s.cfg a → t.readByte x = s.readByte x)
        ∧ t = { s with cram := t.cram, inputs := rest, results := s.results ++ [.done] })
    ∧ (s.inputs = .cramWrite a .two v :: rest → a.toNat % 2 = 0 → storageLoc s.cfg a ≠ storageLoc s.cfg (a + 1) →
      ∃ t, step s = .next t
        ∧ (s.cfg.cramEndian = .little →
            t.readByte a = v.extractLsb' 0 8 ∧ t.readByte (a + 1) = v.extractLsb' 8 8)
        ∧ (∀ x : Word, storageLoc s.cfg x ≠ storageLoc s.cfg a → storageLoc s.cfg x ≠ storageLoc s.cfg (a + 1) →
            t.readByte x = s.readByte x)
        ∧ t = { s with cram := t.cram, inputs := rest, results := s.results ++ [.done] })
    ∧ (s.inputs = .cramWrite a .one v :: rest →
      ∃ t, step s = .next t ∧ t.readByte a = v.extractLsb' 0 8
        ∧ (∀ x : Word, storageLoc s.cfg x ≠ storageLoc s.cfg a → t.readByte x = s.readByte x)
        ∧ t = { s with cram := t.cram, inputs := rest, results := s.results ++ [.done] })
end

