-- ==== Sys2Proof/Laws/State.lean ====
section
/-! SUPPORT. One lemma per field per update: what each named update of the state leaves as it was, and what it writes. True by
`rfl`, so that no proof unfolds a record update. -/

namespace Sys2Proof.Machine

variable (s : State)

/-! ## setPc -/

@[simp] theorem setPc_cfg (t : Word) : (setPc t s).cfg = s.cfg := rfl
@[simp] theorem setPc_sp (t : Word) : (setPc t s).sp = s.sp := rfl
@[simp] theorem setPc_running (t : Word) : (setPc t s).running = s.running := rfl
@[simp] theorem setPc_parity (t : Word) : (setPc t s).parity = s.parity := rfl
@[simp] theorem setPc_fault (t : Word) : (setPc t s).fault = s.fault := rfl
@[simp] theorem setPc_reg15 (t : Word) : (setPc t s).reg15 = s.reg15 := rfl
@[simp] theorem setPc_reg18 (t : Word) : (setPc t s).reg18 = s.reg18 := rfl
@[simp] theorem setPc_reg1A (t : Word) : (setPc t s).reg1A = s.reg1A := rfl
@[simp] theorem setPc_secStatus (t : Word) : (setPc t s).secStatus = s.secStatus := rfl
@[simp] theorem setPc_irqLine (t : Word) : (setPc t s).irqLine = s.irqLine := rfl
@[simp] theorem setPc_vpScratch (t : Word) : (setPc t s).vpScratch = s.vpScratch := rfl
@[simp] theorem setPc_viewports (t : Word) : (setPc t s).viewports = s.viewports := rfl
@[simp] theorem setPc_mvScratch (t : Word) : (setPc t s).mvScratch = s.mvScratch := rfl
@[simp] theorem setPc_modelviews (t : Word) : (setPc t s).modelviews = s.modelviews := rfl
@[simp] theorem setPc_matScratch (t : Word) : (setPc t s).matScratch = s.matScratch := rfl
@[simp] theorem setPc_materials (t : Word) : (setPc t s).materials = s.materials := rfl
@[simp] theorem setPc_thScratch (t : Word) : (setPc t s).thScratch = s.thScratch := rfl
@[simp] theorem setPc_texheads (t : Word) : (setPc t s).texheads = s.texheads := rfl
@[simp] theorem setPc_ltScratch (t : Word) : (setPc t s).ltScratch = s.ltScratch := rfl
@[simp] theorem setPc_lights (t : Word) : (setPc t s).lights = s.lights := rfl
@[simp] theorem setPc_lsScratch (t : Word) : (setPc t s).lsScratch = s.lsScratch := rfl
@[simp] theorem setPc_lightsets (t : Word) : (setPc t s).lightsets = s.lightsets := rfl
@[simp] theorem setPc_ring (t : Word) : (setPc t s).ring = s.ring := rfl
@[simp] theorem setPc_cursor (t : Word) : (setPc t s).cursor = s.cursor := rfl
@[simp] theorem setPc_triOut (t : Word) : (setPc t s).triOut = s.triOut := rfl
@[simp] theorem setPc_cram (t : Word) : (setPc t s).cram = s.cram := rfl
@[simp] theorem setPc_powerUp (t : Word) : (setPc t s).powerUp = s.powerUp := rfl
@[simp] theorem setPc_draws (t : Word) : (setPc t s).draws = s.draws := rfl
@[simp] theorem setPc_budget (t : Word) : (setPc t s).budget = s.budget := rfl
@[simp] theorem setPc_inputs (t : Word) : (setPc t s).inputs = s.inputs := rfl
@[simp] theorem setPc_results (t : Word) : (setPc t s).results = s.results := rfl

/-! ## advance -/

@[simp] theorem advance_cfg (m : Mnemonic) : (advance m s).cfg = s.cfg := rfl
@[simp] theorem advance_sp (m : Mnemonic) : (advance m s).sp = s.sp := rfl
@[simp] theorem advance_running (m : Mnemonic) : (advance m s).running = s.running := rfl
@[simp] theorem advance_parity (m : Mnemonic) : (advance m s).parity = s.parity := rfl
@[simp] theorem advance_fault (m : Mnemonic) : (advance m s).fault = s.fault := rfl
@[simp] theorem advance_reg15 (m : Mnemonic) : (advance m s).reg15 = s.reg15 := rfl
@[simp] theorem advance_reg18 (m : Mnemonic) : (advance m s).reg18 = s.reg18 := rfl
@[simp] theorem advance_reg1A (m : Mnemonic) : (advance m s).reg1A = s.reg1A := rfl
@[simp] theorem advance_secStatus (m : Mnemonic) : (advance m s).secStatus = s.secStatus := rfl
@[simp] theorem advance_irqLine (m : Mnemonic) : (advance m s).irqLine = s.irqLine := rfl
@[simp] theorem advance_vpScratch (m : Mnemonic) : (advance m s).vpScratch = s.vpScratch := rfl
@[simp] theorem advance_viewports (m : Mnemonic) : (advance m s).viewports = s.viewports := rfl
@[simp] theorem advance_mvScratch (m : Mnemonic) : (advance m s).mvScratch = s.mvScratch := rfl
@[simp] theorem advance_modelviews (m : Mnemonic) : (advance m s).modelviews = s.modelviews := rfl
@[simp] theorem advance_matScratch (m : Mnemonic) : (advance m s).matScratch = s.matScratch := rfl
@[simp] theorem advance_materials (m : Mnemonic) : (advance m s).materials = s.materials := rfl
@[simp] theorem advance_thScratch (m : Mnemonic) : (advance m s).thScratch = s.thScratch := rfl
@[simp] theorem advance_texheads (m : Mnemonic) : (advance m s).texheads = s.texheads := rfl
@[simp] theorem advance_ltScratch (m : Mnemonic) : (advance m s).ltScratch = s.ltScratch := rfl
@[simp] theorem advance_lights (m : Mnemonic) : (advance m s).lights = s.lights := rfl
@[simp] theorem advance_lsScratch (m : Mnemonic) : (advance m s).lsScratch = s.lsScratch := rfl
@[simp] theorem advance_lightsets (m : Mnemonic) : (advance m s).lightsets = s.lightsets := rfl
@[simp] theorem advance_ring (m : Mnemonic) : (advance m s).ring = s.ring := rfl
@[simp] theorem advance_cursor (m : Mnemonic) : (advance m s).cursor = s.cursor := rfl
@[simp] theorem advance_triOut (m : Mnemonic) : (advance m s).triOut = s.triOut := rfl
@[simp] theorem advance_cram (m : Mnemonic) : (advance m s).cram = s.cram := rfl
@[simp] theorem advance_powerUp (m : Mnemonic) : (advance m s).powerUp = s.powerUp := rfl
@[simp] theorem advance_draws (m : Mnemonic) : (advance m s).draws = s.draws := rfl
@[simp] theorem advance_budget (m : Mnemonic) : (advance m s).budget = s.budget := rfl
@[simp] theorem advance_inputs (m : Mnemonic) : (advance m s).inputs = s.inputs := rfl
@[simp] theorem advance_results (m : Mnemonic) : (advance m s).results = s.results := rfl

/-! ## raise -/

@[simp] theorem raise_cfg (r : FaultReason) : (raise r s).cfg = s.cfg := rfl
@[simp] theorem raise_pc (r : FaultReason) : (raise r s).pc = s.pc := rfl
@[simp] theorem raise_sp (r : FaultReason) : (raise r s).sp = s.sp := rfl
@[simp] theorem raise_running (r : FaultReason) : (raise r s).running = s.running := rfl
@[simp] theorem raise_parity (r : FaultReason) : (raise r s).parity = s.parity := rfl
@[simp] theorem raise_reg15 (r : FaultReason) : (raise r s).reg15 = s.reg15 := rfl
@[simp] theorem raise_reg18 (r : FaultReason) : (raise r s).reg18 = s.reg18 := rfl
@[simp] theorem raise_reg1A (r : FaultReason) : (raise r s).reg1A = s.reg1A := rfl
@[simp] theorem raise_secStatus (r : FaultReason) : (raise r s).secStatus = s.secStatus := rfl
@[simp] theorem raise_irqLine (r : FaultReason) : (raise r s).irqLine = s.irqLine := rfl
@[simp] theorem raise_vpScratch (r : FaultReason) : (raise r s).vpScratch = s.vpScratch := rfl
@[simp] theorem raise_viewports (r : FaultReason) : (raise r s).viewports = s.viewports := rfl
@[simp] theorem raise_mvScratch (r : FaultReason) : (raise r s).mvScratch = s.mvScratch := rfl
@[simp] theorem raise_modelviews (r : FaultReason) : (raise r s).modelviews = s.modelviews := rfl
@[simp] theorem raise_matScratch (r : FaultReason) : (raise r s).matScratch = s.matScratch := rfl
@[simp] theorem raise_materials (r : FaultReason) : (raise r s).materials = s.materials := rfl
@[simp] theorem raise_thScratch (r : FaultReason) : (raise r s).thScratch = s.thScratch := rfl
@[simp] theorem raise_texheads (r : FaultReason) : (raise r s).texheads = s.texheads := rfl
@[simp] theorem raise_ltScratch (r : FaultReason) : (raise r s).ltScratch = s.ltScratch := rfl
@[simp] theorem raise_lights (r : FaultReason) : (raise r s).lights = s.lights := rfl
@[simp] theorem raise_lsScratch (r : FaultReason) : (raise r s).lsScratch = s.lsScratch := rfl
@[simp] theorem raise_lightsets (r : FaultReason) : (raise r s).lightsets = s.lightsets := rfl
@[simp] theorem raise_ring (r : FaultReason) : (raise r s).ring = s.ring := rfl
@[simp] theorem raise_cursor (r : FaultReason) : (raise r s).cursor = s.cursor := rfl
@[simp] theorem raise_triOut (r : FaultReason) : (raise r s).triOut = s.triOut := rfl
@[simp] theorem raise_cram (r : FaultReason) : (raise r s).cram = s.cram := rfl
@[simp] theorem raise_powerUp (r : FaultReason) : (raise r s).powerUp = s.powerUp := rfl
@[simp] theorem raise_draws (r : FaultReason) : (raise r s).draws = s.draws := rfl
@[simp] theorem raise_budget (r : FaultReason) : (raise r s).budget = s.budget := rfl
@[simp] theorem raise_inputs (r : FaultReason) : (raise r s).inputs = s.inputs := rfl
@[simp] theorem raise_results (r : FaultReason) : (raise r s).results = s.results := rfl

/-! ## memWrite -/

@[simp] theorem memWrite_cfg (a v : Word) : (memWrite a v s).cfg = s.cfg := rfl
@[simp] theorem memWrite_pc (a v : Word) : (memWrite a v s).pc = s.pc := rfl
@[simp] theorem memWrite_sp (a v : Word) : (memWrite a v s).sp = s.sp := rfl
@[simp] theorem memWrite_running (a v : Word) : (memWrite a v s).running = s.running := rfl
@[simp] theorem memWrite_parity (a v : Word) : (memWrite a v s).parity = s.parity := rfl
@[simp] theorem memWrite_fault (a v : Word) : (memWrite a v s).fault = s.fault := rfl
@[simp] theorem memWrite_reg15 (a v : Word) : (memWrite a v s).reg15 = s.reg15 := rfl
@[simp] theorem memWrite_reg18 (a v : Word) : (memWrite a v s).reg18 = s.reg18 := rfl
@[simp] theorem memWrite_reg1A (a v : Word) : (memWrite a v s).reg1A = s.reg1A := rfl
@[simp] theorem memWrite_secStatus (a v : Word) : (memWrite a v s).secStatus = s.secStatus := rfl
@[simp] theorem memWrite_irqLine (a v : Word) : (memWrite a v s).irqLine = s.irqLine := rfl
@[simp] theorem memWrite_vpScratch (a v : Word) : (memWrite a v s).vpScratch = s.vpScratch := rfl
@[simp] theorem memWrite_viewports (a v : Word) : (memWrite a v s).viewports = s.viewports := rfl
@[simp] theorem memWrite_mvScratch (a v : Word) : (memWrite a v s).mvScratch = s.mvScratch := rfl
@[simp] theorem memWrite_modelviews (a v : Word) : (memWrite a v s).modelviews = s.modelviews := rfl
@[simp] theorem memWrite_matScratch (a v : Word) : (memWrite a v s).matScratch = s.matScratch := rfl
@[simp] theorem memWrite_materials (a v : Word) : (memWrite a v s).materials = s.materials := rfl
@[simp] theorem memWrite_thScratch (a v : Word) : (memWrite a v s).thScratch = s.thScratch := rfl
@[simp] theorem memWrite_texheads (a v : Word) : (memWrite a v s).texheads = s.texheads := rfl
@[simp] theorem memWrite_ltScratch (a v : Word) : (memWrite a v s).ltScratch = s.ltScratch := rfl
@[simp] theorem memWrite_lights (a v : Word) : (memWrite a v s).lights = s.lights := rfl
@[simp] theorem memWrite_lsScratch (a v : Word) : (memWrite a v s).lsScratch = s.lsScratch := rfl
@[simp] theorem memWrite_lightsets (a v : Word) : (memWrite a v s).lightsets = s.lightsets := rfl
@[simp] theorem memWrite_ring (a v : Word) : (memWrite a v s).ring = s.ring := rfl
@[simp] theorem memWrite_cursor (a v : Word) : (memWrite a v s).cursor = s.cursor := rfl
@[simp] theorem memWrite_triOut (a v : Word) : (memWrite a v s).triOut = s.triOut := rfl
@[simp] theorem memWrite_powerUp (a v : Word) : (memWrite a v s).powerUp = s.powerUp := rfl
@[simp] theorem memWrite_draws (a v : Word) : (memWrite a v s).draws = s.draws := rfl
@[simp] theorem memWrite_budget (a v : Word) : (memWrite a v s).budget = s.budget := rfl
@[simp] theorem memWrite_inputs (a v : Word) : (memWrite a v s).inputs = s.inputs := rfl
@[simp] theorem memWrite_results (a v : Word) : (memWrite a v s).results = s.results := rfl

/-! ## setReg -/

@[simp] theorem setReg_cfg (b : Block) (o : Nat) (v : Word) : (setReg b o v s).cfg = s.cfg := rfl
@[simp] theorem setReg_pc (b : Block) (o : Nat) (v : Word) : (setReg b o v s).pc = s.pc := rfl
@[simp] theorem setReg_sp (b : Block) (o : Nat) (v : Word) : (setReg b o v s).sp = s.sp := rfl
@[simp] theorem setReg_running (b : Block) (o : Nat) (v : Word) : (setReg b o v s).running = s.running := rfl
@[simp] theorem setReg_parity (b : Block) (o : Nat) (v : Word) : (setReg b o v s).parity = s.parity := rfl
@[simp] theorem setReg_fault (b : Block) (o : Nat) (v : Word) : (setReg b o v s).fault = s.fault := rfl
@[simp] theorem setReg_secStatus (b : Block) (o : Nat) (v : Word) : (setReg b o v s).secStatus = s.secStatus := rfl
@[simp] theorem setReg_irqLine (b : Block) (o : Nat) (v : Word) : (setReg b o v s).irqLine = s.irqLine := rfl
@[simp] theorem setReg_vpScratch (b : Block) (o : Nat) (v : Word) : (setReg b o v s).vpScratch = s.vpScratch := rfl
@[simp] theorem setReg_viewports (b : Block) (o : Nat) (v : Word) : (setReg b o v s).viewports = s.viewports := rfl
@[simp] theorem setReg_mvScratch (b : Block) (o : Nat) (v : Word) : (setReg b o v s).mvScratch = s.mvScratch := rfl
@[simp] theorem setReg_modelviews (b : Block) (o : Nat) (v : Word) : (setReg b o v s).modelviews = s.modelviews := rfl
@[simp] theorem setReg_matScratch (b : Block) (o : Nat) (v : Word) : (setReg b o v s).matScratch = s.matScratch := rfl
@[simp] theorem setReg_materials (b : Block) (o : Nat) (v : Word) : (setReg b o v s).materials = s.materials := rfl
@[simp] theorem setReg_thScratch (b : Block) (o : Nat) (v : Word) : (setReg b o v s).thScratch = s.thScratch := rfl
@[simp] theorem setReg_texheads (b : Block) (o : Nat) (v : Word) : (setReg b o v s).texheads = s.texheads := rfl
@[simp] theorem setReg_ltScratch (b : Block) (o : Nat) (v : Word) : (setReg b o v s).ltScratch = s.ltScratch := rfl
@[simp] theorem setReg_lights (b : Block) (o : Nat) (v : Word) : (setReg b o v s).lights = s.lights := rfl
@[simp] theorem setReg_lsScratch (b : Block) (o : Nat) (v : Word) : (setReg b o v s).lsScratch = s.lsScratch := rfl
@[simp] theorem setReg_lightsets (b : Block) (o : Nat) (v : Word) : (setReg b o v s).lightsets = s.lightsets := rfl
@[simp] theorem setReg_ring (b : Block) (o : Nat) (v : Word) : (setReg b o v s).ring = s.ring := rfl
@[simp] theorem setReg_cursor (b : Block) (o : Nat) (v : Word) : (setReg b o v s).cursor = s.cursor := rfl
@[simp] theorem setReg_triOut (b : Block) (o : Nat) (v : Word) : (setReg b o v s).triOut = s.triOut := rfl
@[simp] theorem setReg_cram (b : Block) (o : Nat) (v : Word) : (setReg b o v s).cram = s.cram := rfl
@[simp] theorem setReg_powerUp (b : Block) (o : Nat) (v : Word) : (setReg b o v s).powerUp = s.powerUp := rfl
@[simp] theorem setReg_draws (b : Block) (o : Nat) (v : Word) : (setReg b o v s).draws = s.draws := rfl
@[simp] theorem setReg_budget (b : Block) (o : Nat) (v : Word) : (setReg b o v s).budget = s.budget := rfl
@[simp] theorem setReg_inputs (b : Block) (o : Nat) (v : Word) : (setReg b o v s).inputs = s.inputs := rfl
@[simp] theorem setReg_results (b : Block) (o : Nat) (v : Word) : (setReg b o v s).results = s.results := rfl

/-! ## clearBits -/

@[simp] theorem clearBits_cfg (r : RegBits) : (clearBits r s).cfg = s.cfg := rfl
@[simp] theorem clearBits_pc (r : RegBits) : (clearBits r s).pc = s.pc := rfl
@[simp] theorem clearBits_sp (r : RegBits) : (clearBits r s).sp = s.sp := rfl
@[simp] theorem clearBits_running (r : RegBits) : (clearBits r s).running = s.running := rfl
@[simp] theorem clearBits_parity (r : RegBits) : (clearBits r s).parity = s.parity := rfl
@[simp] theorem clearBits_fault (r : RegBits) : (clearBits r s).fault = s.fault := rfl
@[simp] theorem clearBits_secStatus (r : RegBits) : (clearBits r s).secStatus = s.secStatus := rfl
@[simp] theorem clearBits_irqLine (r : RegBits) : (clearBits r s).irqLine = s.irqLine := rfl
@[simp] theorem clearBits_vpScratch (r : RegBits) : (clearBits r s).vpScratch = s.vpScratch := rfl
@[simp] theorem clearBits_viewports (r : RegBits) : (clearBits r s).viewports = s.viewports := rfl
@[simp] theorem clearBits_mvScratch (r : RegBits) : (clearBits r s).mvScratch = s.mvScratch := rfl
@[simp] theorem clearBits_modelviews (r : RegBits) : (clearBits r s).modelviews = s.modelviews := rfl
@[simp] theorem clearBits_matScratch (r : RegBits) : (clearBits r s).matScratch = s.matScratch := rfl
@[simp] theorem clearBits_materials (r : RegBits) : (clearBits r s).materials = s.materials := rfl
@[simp] theorem clearBits_thScratch (r : RegBits) : (clearBits r s).thScratch = s.thScratch := rfl
@[simp] theorem clearBits_texheads (r : RegBits) : (clearBits r s).texheads = s.texheads := rfl
@[simp] theorem clearBits_ltScratch (r : RegBits) : (clearBits r s).ltScratch = s.ltScratch := rfl
@[simp] theorem clearBits_lights (r : RegBits) : (clearBits r s).lights = s.lights := rfl
@[simp] theorem clearBits_lsScratch (r : RegBits) : (clearBits r s).lsScratch = s.lsScratch := rfl
@[simp] theorem clearBits_lightsets (r : RegBits) : (clearBits r s).lightsets = s.lightsets := rfl
@[simp] theorem clearBits_ring (r : RegBits) : (clearBits r s).ring = s.ring := rfl
@[simp] theorem clearBits_cursor (r : RegBits) : (clearBits r s).cursor = s.cursor := rfl
@[simp] theorem clearBits_triOut (r : RegBits) : (clearBits r s).triOut = s.triOut := rfl
@[simp] theorem clearBits_cram (r : RegBits) : (clearBits r s).cram = s.cram := rfl
@[simp] theorem clearBits_powerUp (r : RegBits) : (clearBits r s).powerUp = s.powerUp := rfl
@[simp] theorem clearBits_draws (r : RegBits) : (clearBits r s).draws = s.draws := rfl
@[simp] theorem clearBits_budget (r : RegBits) : (clearBits r s).budget = s.budget := rfl
@[simp] theorem clearBits_inputs (r : RegBits) : (clearBits r s).inputs = s.inputs := rfl
@[simp] theorem clearBits_results (r : RegBits) : (clearBits r s).results = s.results := rfl

/-! ## setActiveSp -/

@[simp] theorem setActiveSp_cfg (v : Word) : (setActiveSp v s).cfg = s.cfg := rfl
@[simp] theorem setActiveSp_pc (v : Word) : (setActiveSp v s).pc = s.pc := rfl
@[simp] theorem setActiveSp_running (v : Word) : (setActiveSp v s).running = s.running := rfl
@[simp] theorem setActiveSp_parity (v : Word) : (setActiveSp v s).parity = s.parity := rfl
@[simp] theorem setActiveSp_fault (v : Word) : (setActiveSp v s).fault = s.fault := rfl
@[simp] theorem setActiveSp_reg15 (v : Word) : (setActiveSp v s).reg15 = s.reg15 := rfl
@[simp] theorem setActiveSp_reg18 (v : Word) : (setActiveSp v s).reg18 = s.reg18 := rfl
@[simp] theorem setActiveSp_reg1A (v : Word) : (setActiveSp v s).reg1A = s.reg1A := rfl
@[simp] theorem setActiveSp_secStatus (v : Word) : (setActiveSp v s).secStatus = s.secStatus := rfl
@[simp] theorem setActiveSp_irqLine (v : Word) : (setActiveSp v s).irqLine = s.irqLine := rfl
@[simp] theorem setActiveSp_vpScratch (v : Word) : (setActiveSp v s).vpScratch = s.vpScratch := rfl
@[simp] theorem setActiveSp_viewports (v : Word) : (setActiveSp v s).viewports = s.viewports := rfl
@[simp] theorem setActiveSp_mvScratch (v : Word) : (setActiveSp v s).mvScratch = s.mvScratch := rfl
@[simp] theorem setActiveSp_modelviews (v : Word) : (setActiveSp v s).modelviews = s.modelviews := rfl
@[simp] theorem setActiveSp_matScratch (v : Word) : (setActiveSp v s).matScratch = s.matScratch := rfl
@[simp] theorem setActiveSp_materials (v : Word) : (setActiveSp v s).materials = s.materials := rfl
@[simp] theorem setActiveSp_thScratch (v : Word) : (setActiveSp v s).thScratch = s.thScratch := rfl
@[simp] theorem setActiveSp_texheads (v : Word) : (setActiveSp v s).texheads = s.texheads := rfl
@[simp] theorem setActiveSp_ltScratch (v : Word) : (setActiveSp v s).ltScratch = s.ltScratch := rfl
@[simp] theorem setActiveSp_lights (v : Word) : (setActiveSp v s).lights = s.lights := rfl
@[simp] theorem setActiveSp_lsScratch (v : Word) : (setActiveSp v s).lsScratch = s.lsScratch := rfl
@[simp] theorem setActiveSp_lightsets (v : Word) : (setActiveSp v s).lightsets = s.lightsets := rfl
@[simp] theorem setActiveSp_ring (v : Word) : (setActiveSp v s).ring = s.ring := rfl
@[simp] theorem setActiveSp_cursor (v : Word) : (setActiveSp v s).cursor = s.cursor := rfl
@[simp] theorem setActiveSp_triOut (v : Word) : (setActiveSp v s).triOut = s.triOut := rfl
@[simp] theorem setActiveSp_cram (v : Word) : (setActiveSp v s).cram = s.cram := rfl
@[simp] theorem setActiveSp_powerUp (v : Word) : (setActiveSp v s).powerUp = s.powerUp := rfl
@[simp] theorem setActiveSp_draws (v : Word) : (setActiveSp v s).draws = s.draws := rfl
@[simp] theorem setActiveSp_budget (v : Word) : (setActiveSp v s).budget = s.budget := rfl
@[simp] theorem setActiveSp_inputs (v : Word) : (setActiveSp v s).inputs = s.inputs := rfl
@[simp] theorem setActiveSp_results (v : Word) : (setActiveSp v s).results = s.results := rfl

/-! ## pushCall -/

@[simp] theorem pushCall_cfg : (pushCall s).cfg = s.cfg := rfl
@[simp] theorem pushCall_pc : (pushCall s).pc = s.pc := rfl
@[simp] theorem pushCall_running : (pushCall s).running = s.running := rfl
@[simp] theorem pushCall_parity : (pushCall s).parity = s.parity := rfl
@[simp] theorem pushCall_fault : (pushCall s).fault = s.fault := rfl
@[simp] theorem pushCall_reg15 : (pushCall s).reg15 = s.reg15 := rfl
@[simp] theorem pushCall_reg18 : (pushCall s).reg18 = s.reg18 := rfl
@[simp] theorem pushCall_reg1A : (pushCall s).reg1A = s.reg1A := rfl
@[simp] theorem pushCall_secStatus : (pushCall s).secStatus = s.secStatus := rfl
@[simp] theorem pushCall_irqLine : (pushCall s).irqLine = s.irqLine := rfl
@[simp] theorem pushCall_vpScratch : (pushCall s).vpScratch = s.vpScratch := rfl
@[simp] theorem pushCall_viewports : (pushCall s).viewports = s.viewports := rfl
@[simp] theorem pushCall_mvScratch : (pushCall s).mvScratch = s.mvScratch := rfl
@[simp] theorem pushCall_modelviews : (pushCall s).modelviews = s.modelviews := rfl
@[simp] theorem pushCall_matScratch : (pushCall s).matScratch = s.matScratch := rfl
@[simp] theorem pushCall_materials : (pushCall s).materials = s.materials := rfl
@[simp] theorem pushCall_thScratch : (pushCall s).thScratch = s.thScratch := rfl
@[simp] theorem pushCall_texheads : (pushCall s).texheads = s.texheads := rfl
@[simp] theorem pushCall_ltScratch : (pushCall s).ltScratch = s.ltScratch := rfl
@[simp] theorem pushCall_lights : (pushCall s).lights = s.lights := rfl
@[simp] theorem pushCall_lsScratch : (pushCall s).lsScratch = s.lsScratch := rfl
@[simp] theorem pushCall_lightsets : (pushCall s).lightsets = s.lightsets := rfl
@[simp] theorem pushCall_ring : (pushCall s).ring = s.ring := rfl
@[simp] theorem pushCall_cursor : (pushCall s).cursor = s.cursor := rfl
@[simp] theorem pushCall_triOut : (pushCall s).triOut = s.triOut := rfl
@[simp] theorem pushCall_powerUp : (pushCall s).powerUp = s.powerUp := rfl
@[simp] theorem pushCall_draws : (pushCall s).draws = s.draws := rfl
@[simp] theorem pushCall_budget : (pushCall s).budget = s.budget := rfl
@[simp] theorem pushCall_inputs : (pushCall s).inputs = s.inputs := rfl
@[simp] theorem pushCall_results : (pushCall s).results = s.results := rfl

/-! ## setVpPart -/

@[simp] theorem setVpPart_cfg (k : Fin 6) (ws : List Word) : (setVpPart k ws s).cfg = s.cfg := rfl
@[simp] theorem setVpPart_pc (k : Fin 6) (ws : List Word) : (setVpPart k ws s).pc = s.pc := rfl
@[simp] theorem setVpPart_sp (k : Fin 6) (ws : List Word) : (setVpPart k ws s).sp = s.sp := rfl
@[simp] theorem setVpPart_running (k : Fin 6) (ws : List Word) : (setVpPart k ws s).running = s.running := rfl
@[simp] theorem setVpPart_parity (k : Fin 6) (ws : List Word) : (setVpPart k ws s).parity = s.parity := rfl
@[simp] theorem setVpPart_fault (k : Fin 6) (ws : List Word) : (setVpPart k ws s).fault = s.fault := rfl
@[simp] theorem setVpPart_reg15 (k : Fin 6) (ws : List Word) : (setVpPart k ws s).reg15 = s.reg15 := rfl
@[simp] theorem setVpPart_reg18 (k : Fin 6) (ws : List Word) : (setVpPart k ws s).reg18 = s.reg18 := rfl
@[simp] theorem setVpPart_reg1A (k : Fin 6) (ws : List Word) : (setVpPart k ws s).reg1A = s.reg1A := rfl
@[simp] theorem setVpPart_secStatus (k : Fin 6) (ws : List Word) : (setVpPart k ws s).secStatus = s.secStatus := rfl
@[simp] theorem setVpPart_irqLine (k : Fin 6) (ws : List Word) : (setVpPart k ws s).irqLine = s.irqLine := rfl
@[simp] theorem setVpPart_viewports (k : Fin 6) (ws : List Word) : (setVpPart k ws s).viewports = s.viewports := rfl
@[simp] theorem setVpPart_mvScratch (k : Fin 6) (ws : List Word) : (setVpPart k ws s).mvScratch = s.mvScratch := rfl
@[simp] theorem setVpPart_modelviews (k : Fin 6) (ws : List Word) : (setVpPart k ws s).modelviews = s.modelviews := rfl
@[simp] theorem setVpPart_matScratch (k : Fin 6) (ws : List Word) : (setVpPart k ws s).matScratch = s.matScratch := rfl
@[simp] theorem setVpPart_materials (k : Fin 6) (ws : List Word) : (setVpPart k ws s).materials = s.materials := rfl
@[simp] theorem setVpPart_thScratch (k : Fin 6) (ws : List Word) : (setVpPart k ws s).thScratch = s.thScratch := rfl
@[simp] theorem setVpPart_texheads (k : Fin 6) (ws : List Word) : (setVpPart k ws s).texheads = s.texheads := rfl
@[simp] theorem setVpPart_ltScratch (k : Fin 6) (ws : List Word) : (setVpPart k ws s).ltScratch = s.ltScratch := rfl
@[simp] theorem setVpPart_lights (k : Fin 6) (ws : List Word) : (setVpPart k ws s).lights = s.lights := rfl
@[simp] theorem setVpPart_lsScratch (k : Fin 6) (ws : List Word) : (setVpPart k ws s).lsScratch = s.lsScratch := rfl
@[simp] theorem setVpPart_lightsets (k : Fin 6) (ws : List Word) : (setVpPart k ws s).lightsets = s.lightsets := rfl
@[simp] theorem setVpPart_ring (k : Fin 6) (ws : List Word) : (setVpPart k ws s).ring = s.ring := rfl
@[simp] theorem setVpPart_cursor (k : Fin 6) (ws : List Word) : (setVpPart k ws s).cursor = s.cursor := rfl
@[simp] theorem setVpPart_triOut (k : Fin 6) (ws : List Word) : (setVpPart k ws s).triOut = s.triOut := rfl
@[simp] theorem setVpPart_cram (k : Fin 6) (ws : List Word) : (setVpPart k ws s).cram = s.cram := rfl
@[simp] theorem setVpPart_powerUp (k : Fin 6) (ws : List Word) : (setVpPart k ws s).powerUp = s.powerUp := rfl
@[simp] theorem setVpPart_draws (k : Fin 6) (ws : List Word) : (setVpPart k ws s).draws = s.draws := rfl
@[simp] theorem setVpPart_budget (k : Fin 6) (ws : List Word) : (setVpPart k ws s).budget = s.budget := rfl
@[simp] theorem setVpPart_inputs (k : Fin 6) (ws : List Word) : (setVpPart k ws s).inputs = s.inputs := rfl
@[simp] theorem setVpPart_results (k : Fin 6) (ws : List Word) : (setVpPart k ws s).results = s.results := rfl

/-! ## setMvRow -/

@[simp] theorem setMvRow_cfg (r : Fin 4) (row : Vec3) : (setMvRow r row s).cfg = s.cfg := rfl
@[simp] theorem setMvRow_pc (r : Fin 4) (row : Vec3) : (setMvRow r row s).pc = s.pc := rfl
@[simp] theorem setMvRow_sp (r : Fin 4) (row : Vec3) : (setMvRow r row s).sp = s.sp := rfl
@[simp] theorem setMvRow_running (r : Fin 4) (row : Vec3) : (setMvRow r row s).running = s.running := rfl
@[simp] theorem setMvRow_parity (r : Fin 4) (row : Vec3) : (setMvRow r row s).parity = s.parity := rfl
@[simp] theorem setMvRow_fault (r : Fin 4) (row : Vec3) : (setMvRow r row s).fault = s.fault := rfl
@[simp] theorem setMvRow_reg15 (r : Fin 4) (row : Vec3) : (setMvRow r row s).reg15 = s.reg15 := rfl
@[simp] theorem setMvRow_reg18 (r : Fin 4) (row : Vec3) : (setMvRow r row s).reg18 = s.reg18 := rfl
@[simp] theorem setMvRow_reg1A (r : Fin 4) (row : Vec3) : (setMvRow r row s).reg1A = s.reg1A := rfl
@[simp] theorem setMvRow_secStatus (r : Fin 4) (row : Vec3) : (setMvRow r row s).secStatus = s.secStatus := rfl
@[simp] theorem setMvRow_irqLine (r : Fin 4) (row : Vec3) : (setMvRow r row s).irqLine = s.irqLine := rfl
@[simp] theorem setMvRow_vpScratch (r : Fin 4) (row : Vec3) : (setMvRow r row s).vpScratch = s.vpScratch := rfl
@[simp] theorem setMvRow_viewports (r : Fin 4) (row : Vec3) : (setMvRow r row s).viewports = s.viewports := rfl
@[simp] theorem setMvRow_modelviews (r : Fin 4) (row : Vec3) : (setMvRow r row s).modelviews = s.modelviews := rfl
@[simp] theorem setMvRow_matScratch (r : Fin 4) (row : Vec3) : (setMvRow r row s).matScratch = s.matScratch := rfl
@[simp] theorem setMvRow_materials (r : Fin 4) (row : Vec3) : (setMvRow r row s).materials = s.materials := rfl
@[simp] theorem setMvRow_thScratch (r : Fin 4) (row : Vec3) : (setMvRow r row s).thScratch = s.thScratch := rfl
@[simp] theorem setMvRow_texheads (r : Fin 4) (row : Vec3) : (setMvRow r row s).texheads = s.texheads := rfl
@[simp] theorem setMvRow_ltScratch (r : Fin 4) (row : Vec3) : (setMvRow r row s).ltScratch = s.ltScratch := rfl
@[simp] theorem setMvRow_lights (r : Fin 4) (row : Vec3) : (setMvRow r row s).lights = s.lights := rfl
@[simp] theorem setMvRow_lsScratch (r : Fin 4) (row : Vec3) : (setMvRow r row s).lsScratch = s.lsScratch := rfl
@[simp] theorem setMvRow_lightsets (r : Fin 4) (row : Vec3) : (setMvRow r row s).lightsets = s.lightsets := rfl
@[simp] theorem setMvRow_ring (r : Fin 4) (row : Vec3) : (setMvRow r row s).ring = s.ring := rfl
@[simp] theorem setMvRow_cursor (r : Fin 4) (row : Vec3) : (setMvRow r row s).cursor = s.cursor := rfl
@[simp] theorem setMvRow_triOut (r : Fin 4) (row : Vec3) : (setMvRow r row s).triOut = s.triOut := rfl
@[simp] theorem setMvRow_cram (r : Fin 4) (row : Vec3) : (setMvRow r row s).cram = s.cram := rfl
@[simp] theorem setMvRow_powerUp (r : Fin 4) (row : Vec3) : (setMvRow r row s).powerUp = s.powerUp := rfl
@[simp] theorem setMvRow_draws (r : Fin 4) (row : Vec3) : (setMvRow r row s).draws = s.draws := rfl
@[simp] theorem setMvRow_budget (r : Fin 4) (row : Vec3) : (setMvRow r row s).budget = s.budget := rfl
@[simp] theorem setMvRow_inputs (r : Fin 4) (row : Vec3) : (setMvRow r row s).inputs = s.inputs := rfl
@[simp] theorem setMvRow_results (r : Fin 4) (row : Vec3) : (setMvRow r row s).results = s.results := rfl

/-! ## recallSlot -/

@[simp] theorem recallSlot_cfg (cat : Category) : (recallSlot cat s).cfg = s.cfg := rfl
@[simp] theorem recallSlot_pc (cat : Category) : (recallSlot cat s).pc = s.pc := rfl
@[simp] theorem recallSlot_sp (cat : Category) : (recallSlot cat s).sp = s.sp := rfl
@[simp] theorem recallSlot_running (cat : Category) : (recallSlot cat s).running = s.running := rfl
@[simp] theorem recallSlot_parity (cat : Category) : (recallSlot cat s).parity = s.parity := rfl
@[simp] theorem recallSlot_fault (cat : Category) : (recallSlot cat s).fault = s.fault := rfl
@[simp] theorem recallSlot_reg15 (cat : Category) : (recallSlot cat s).reg15 = s.reg15 := rfl
@[simp] theorem recallSlot_reg18 (cat : Category) : (recallSlot cat s).reg18 = s.reg18 := rfl
@[simp] theorem recallSlot_reg1A (cat : Category) : (recallSlot cat s).reg1A = s.reg1A := rfl
@[simp] theorem recallSlot_secStatus (cat : Category) : (recallSlot cat s).secStatus = s.secStatus := rfl
@[simp] theorem recallSlot_irqLine (cat : Category) : (recallSlot cat s).irqLine = s.irqLine := rfl
@[simp] theorem recallSlot_vpScratch (cat : Category) : (recallSlot cat s).vpScratch = s.vpScratch := rfl
@[simp] theorem recallSlot_viewports (cat : Category) : (recallSlot cat s).viewports = s.viewports := rfl
@[simp] theorem recallSlot_mvScratch (cat : Category) : (recallSlot cat s).mvScratch = s.mvScratch := rfl
@[simp] theorem recallSlot_modelviews (cat : Category) : (recallSlot cat s).modelviews = s.modelviews := rfl
@[simp] theorem recallSlot_matScratch (cat : Category) : (recallSlot cat s).matScratch = s.matScratch := rfl
@[simp] theorem recallSlot_materials (cat : Category) : (recallSlot cat s).materials = s.materials := rfl
@[simp] theorem recallSlot_thScratch (cat : Category) : (recallSlot cat s).thScratch = s.thScratch := rfl
@[simp] theorem recallSlot_texheads (cat : Category) : (recallSlot cat s).texheads = s.texheads := rfl
@[simp] theorem recallSlot_ltScratch (cat : Category) : (recallSlot cat s).ltScratch = s.ltScratch := rfl
@[simp] theorem recallSlot_lights (cat : Category) : (recallSlot cat s).lights = s.lights := rfl
@[simp] theorem recallSlot_lsScratch (cat : Category) : (recallSlot cat s).lsScratch = s.lsScratch := rfl
@[simp] theorem recallSlot_lightsets (cat : Category) : (recallSlot cat s).lightsets = s.lightsets := rfl
@[simp] theorem recallSlot_ring (cat : Category) : (recallSlot cat s).ring = s.ring := rfl
@[simp] theorem recallSlot_cursor (cat : Category) : (recallSlot cat s).cursor = s.cursor := rfl
@[simp] theorem recallSlot_triOut (cat : Category) : (recallSlot cat s).triOut = s.triOut := rfl
@[simp] theorem recallSlot_cram (cat : Category) : (recallSlot cat s).cram = s.cram := rfl
@[simp] theorem recallSlot_powerUp (cat : Category) : (recallSlot cat s).powerUp = s.powerUp := rfl
@[simp] theorem recallSlot_draws (cat : Category) : (recallSlot cat s).draws = s.draws := rfl
@[simp] theorem recallSlot_budget (cat : Category) : (recallSlot cat s).budget = s.budget := rfl
@[simp] theorem recallSlot_inputs (cat : Category) : (recallSlot cat s).inputs = s.inputs := rfl
@[simp] theorem recallSlot_results (cat : Category) : (recallSlot cat s).results = s.results := rfl

/-! ## aggregate -/

@[simp] theorem aggregate_cfg : (aggregate s).cfg = s.cfg := rfl
@[simp] theorem aggregate_pc : (aggregate s).pc = s.pc := rfl
@[simp] theorem aggregate_sp : (aggregate s).sp = s.sp := rfl
@[simp] theorem aggregate_running : (aggregate s).running = s.running := rfl
@[simp] theorem aggregate_parity : (aggregate s).parity = s.parity := rfl
@[simp] theorem aggregate_fault : (aggregate s).fault = s.fault := rfl
@[simp] theorem aggregate_reg18 : (aggregate s).reg18 = s.reg18 := rfl
@[simp] theorem aggregate_reg1A : (aggregate s).reg1A = s.reg1A := rfl
@[simp] theorem aggregate_vpScratch : (aggregate s).vpScratch = s.vpScratch := rfl
@[simp] theorem aggregate_viewports : (aggregate s).viewports = s.viewports := rfl
@[simp] theorem aggregate_mvScratch : (aggregate s).mvScratch = s.mvScratch := rfl
@[simp] theorem aggregate_modelviews : (aggregate s).modelviews = s.modelviews := rfl
@[simp] theorem aggregate_matScratch : (aggregate s).matScratch = s.matScratch := rfl
@[simp] theorem aggregate_materials : (aggregate s).materials = s.materials := rfl
@[simp] theorem aggregate_thScratch : (aggregate s).thScratch = s.thScratch := rfl
@[simp] theorem aggregate_texheads : (aggregate s).texheads = s.texheads := rfl
@[simp] theorem aggregate_ltScratch : (aggregate s).ltScratch = s.ltScratch := rfl
@[simp] theorem aggregate_lights : (aggregate s).lights = s.lights := rfl
@[simp] theorem aggregate_lsScratch : (aggregate s).lsScratch = s.lsScratch := rfl
@[simp] theorem aggregate_lightsets : (aggregate s).lightsets = s.lightsets := rfl
@[simp] theorem aggregate_ring : (aggregate s).ring = s.ring := rfl
@[simp] theorem aggregate_cursor : (aggregate s).cursor = s.cursor := rfl
@[simp] theorem aggregate_triOut : (aggregate s).triOut = s.triOut := rfl
@[simp] theorem aggregate_cram : (aggregate s).cram = s.cram := rfl
@[simp] theorem aggregate_powerUp : (aggregate s).powerUp = s.powerUp := rfl
@[simp] theorem aggregate_draws : (aggregate s).draws = s.draws := rfl
@[simp] theorem aggregate_budget : (aggregate s).budget = s.budget := rfl
@[simp] theorem aggregate_inputs : (aggregate s).inputs = s.inputs := rfl
@[simp] theorem aggregate_results : (aggregate s).results = s.results := rfl

/-! ## irqRaise -/

@[simp] theorem irqRaise_cfg (main : BitVec 8) (sec : BitVec 4) : (irqRaise main sec s).cfg = s.cfg := rfl
@[simp] theorem irqRaise_pc (main : BitVec 8) (sec : BitVec 4) : (irqRaise main sec s).pc = s.pc := rfl
@[simp] theorem irqRaise_sp (main : BitVec 8) (sec : BitVec 4) : (irqRaise main sec s).sp = s.sp := rfl
@[simp] theorem irqRaise_running (main : BitVec 8) (sec : BitVec 4) : (irqRaise main sec s).running = s.running := rfl
@[simp] theorem irqRaise_parity (main : BitVec 8) (sec : BitVec 4) : (irqRaise main sec s).parity = s.parity := rfl
@[simp] theorem irqRaise_fault (main : BitVec 8) (sec : BitVec 4) : (irqRaise main sec s).fault = s.fault := rfl
@[simp] theorem irqRaise_reg18 (main : BitVec 8) (sec : BitVec 4) : (irqRaise main sec s).reg18 = s.reg18 := rfl
@[simp] theorem irqRaise_vpScratch (main : BitVec 8) (sec : BitVec 4) : (irqRaise main sec s).vpScratch = s.vpScratch := rfl
@[simp] theorem irqRaise_viewports (main : BitVec 8) (sec : BitVec 4) : (irqRaise main sec s).viewports = s.viewports := rfl
@[simp] theorem irqRaise_mvScratch (main : BitVec 8) (sec : BitVec 4) : (irqRaise main sec s).mvScratch = s.mvScratch := rfl
@[simp] theorem irqRaise_modelviews (main : BitVec 8) (sec : BitVec 4) : (irqRaise main sec s).modelviews = s.modelviews := rfl
@[simp] theorem irqRaise_matScratch (main : BitVec 8) (sec : BitVec 4) : (irqRaise main sec s).matScratch = s.matScratch := rfl
@[simp] theorem irqRaise_materials (main : BitVec 8) (sec : BitVec 4) : (irqRaise main sec s).materials = s.materials := rfl
@[simp] theorem irqRaise_thScratch (main : BitVec 8) (sec : BitVec 4) : (irqRaise main sec s).thScratch = s.thScratch := rfl
@[simp] theorem irqRaise_texheads (main : BitVec 8) (sec : BitVec 4) : (irqRaise main sec s).texheads = s.texheads := rfl
@[simp] theorem irqRaise_ltScratch (main : BitVec 8) (sec : BitVec 4) : (irqRaise main sec s).ltScratch = s.ltScratch := rfl
@[simp] theorem irqRaise_lights (main : BitVec 8) (sec : BitVec 4) : (irqRaise main sec s).lights = s.lights := rfl
@[simp] theorem irqRaise_lsScratch (main : BitVec 8) (sec : BitVec 4) : (irqRaise main sec s).lsScratch = s.lsScratch := rfl
@[simp] theorem irqRaise_lightsets (main : BitVec 8) (sec : BitVec 4) : (irqRaise main sec s).lightsets = s.lightsets := rfl
@[simp] theorem irqRaise_ring (main : BitVec 8) (sec : BitVec 4) : (irqRaise main sec s).ring = s.ring := rfl
@[simp] theorem irqRaise_cursor (main : BitVec 8) (sec : BitVec 4) : (irqRaise main sec s).cursor = s.cursor := rfl
@[simp] theorem irqRaise_triOut (main : BitVec 8) (sec : BitVec 4) : (irqRaise main sec s).triOut = s.triOut := rfl
@[simp] theorem irqRaise_cram (main : BitVec 8) (sec : BitVec 4) : (irqRaise main sec s).cram = s.cram := rfl
@[simp] theorem irqRaise_powerUp (main : BitVec 8) (sec : BitVec 4) : (irqRaise main sec s).powerUp = s.powerUp := rfl
@[simp] theorem irqRaise_draws (main : BitVec 8) (sec : BitVec 4) : (irqRaise main sec s).draws = s.draws := rfl
@[simp] theorem irqRaise_budget (main : BitVec 8) (sec : BitVec 4) : (irqRaise main sec s).budget = s.budget := rfl
@[simp] theorem irqRaise_inputs (main : BitVec 8) (sec : BitVec 4) : (irqRaise main sec s).inputs = s.inputs := rfl
@[simp] theorem irqRaise_results (main : BitVec 8) (sec : BitVec 4) : (irqRaise main sec s).results = s.results := rfl

/-! ## complete -/

@[simp] theorem complete_cfg : (complete s).cfg = s.cfg := rfl
@[simp] theorem complete_pc : (complete s).pc = s.pc := rfl
@[simp] theorem complete_sp : (complete s).sp = s.sp := rfl
@[simp] theorem complete_running : (complete s).running = s.running := rfl
@[simp] theorem complete_parity : (complete s).parity = s.parity := rfl
@[simp] theorem complete_fault : (complete s).fault = s.fault := rfl
@[simp] theorem complete_vpScratch : (complete s).vpScratch = s.vpScratch := rfl
@[simp] theorem complete_viewports : (complete s).viewports = s.viewports := rfl
@[simp] theorem complete_mvScratch : (complete s).mvScratch = s.mvScratch := rfl
@[simp] theorem complete_modelviews : (complete s).modelviews = s.modelviews := rfl
@[simp] theorem complete_matScratch : (complete s).matScratch = s.matScratch := rfl
@[simp] theorem complete_materials : (complete s).materials = s.materials := rfl
@[simp] theorem complete_thScratch : (complete s).thScratch = s.thScratch := rfl
@[simp] theorem complete_texheads : (complete s).texheads = s.texheads := rfl
@[simp] theorem complete_ltScratch : (complete s).ltScratch = s.ltScratch := rfl
@[simp] theorem complete_lights : (complete s).lights = s.lights := rfl
@[simp] theorem complete_lsScratch : (complete s).lsScratch = s.lsScratch := rfl
@[simp] theorem complete_lightsets : (complete s).lightsets = s.lightsets := rfl
@[simp] theorem complete_ring : (complete s).ring = s.ring := rfl
@[simp] theorem complete_cursor : (complete s).cursor = s.cursor := rfl
@[simp] theorem complete_triOut : (complete s).triOut = s.triOut := rfl
@[simp] theorem complete_cram : (complete s).cram = s.cram := rfl
@[simp] theorem complete_powerUp : (complete s).powerUp = s.powerUp := rfl
@[simp] theorem complete_draws : (complete s).draws = s.draws := rfl
@[simp] theorem complete_budget : (complete s).budget = s.budget := rfl
@[simp] theorem complete_inputs : (complete s).inputs = s.inputs := rfl
@[simp] theorem complete_results : (complete s).results = s.results := rfl

/-! ## ringClear -/

@[simp] theorem ringClear_cfg : (ringClear s).cfg = s.cfg := rfl
@[simp] theorem ringClear_pc : (ringClear s).pc = s.pc := rfl
@[simp] theorem ringClear_sp : (ringClear s).sp = s.sp := rfl
@[simp] theorem ringClear_running : (ringClear s).running = s.running := rfl
@[simp] theorem ringClear_parity : (ringClear s).parity = s.parity := rfl
@[simp] theorem ringClear_fault : (ringClear s).fault = s.fault := rfl
@[simp] theorem ringClear_reg15 : (ringClear s).reg15 = s.reg15 := rfl
@[simp] theorem ringClear_reg18 : (ringClear s).reg18 = s.reg18 := rfl
@[simp] theorem ringClear_reg1A : (ringClear s).reg1A = s.reg1A := rfl
@[simp] theorem ringClear_secStatus : (ringClear s).secStatus = s.secStatus := rfl
@[simp] theorem ringClear_irqLine : (ringClear s).irqLine = s.irqLine := rfl
@[simp] theorem ringClear_vpScratch : (ringClear s).vpScratch = s.vpScratch := rfl
@[simp] theorem ringClear_viewports : (ringClear s).viewports = s.viewports := rfl
@[simp] theorem ringClear_mvScratch : (ringClear s).mvScratch = s.mvScratch := rfl
@[simp] theorem ringClear_modelviews : (ringClear s).modelviews = s.modelviews := rfl
@[simp] theorem ringClear_matScratch : (ringClear s).matScratch = s.matScratch := rfl
@[simp] theorem ringClear_materials : (ringClear s).materials = s.materials := rfl
@[simp] theorem ringClear_thScratch : (ringClear s).thScratch = s.thScratch := rfl
@[simp] theorem ringClear_texheads : (ringClear s).texheads = s.texheads := rfl
@[simp] theorem ringClear_ltScratch : (ringClear s).ltScratch = s.ltScratch := rfl
@[simp] theorem ringClear_lights : (ringClear s).lights = s.lights := rfl
@[simp] theorem ringClear_lsScratch : (ringClear s).lsScratch = s.lsScratch := rfl
@[simp] theorem ringClear_lightsets : (ringClear s).lightsets = s.lightsets := rfl
@[simp] theorem ringClear_triOut : (ringClear s).triOut = s.triOut := rfl
@[simp] theorem ringClear_cram : (ringClear s).cram = s.cram := rfl
@[simp] theorem ringClear_powerUp : (ringClear s).powerUp = s.powerUp := rfl
@[simp] theorem ringClear_draws : (ringClear s).draws = s.draws := rfl
@[simp] theorem ringClear_budget : (ringClear s).budget = s.budget := rfl
@[simp] theorem ringClear_inputs : (ringClear s).inputs = s.inputs := rfl
@[simp] theorem ringClear_results : (ringClear s).results = s.results := rfl

/-! ## append -/

@[simp] theorem append_cfg (p : Vec3) : (append p s).cfg = s.cfg := rfl
@[simp] theorem append_pc (p : Vec3) : (append p s).pc = s.pc := rfl
@[simp] theorem append_sp (p : Vec3) : (append p s).sp = s.sp := rfl
@[simp] theorem append_running (p : Vec3) : (append p s).running = s.running := rfl
@[simp] theorem append_parity (p : Vec3) : (append p s).parity = s.parity := rfl
@[simp] theorem append_fault (p : Vec3) : (append p s).fault = s.fault := rfl
@[simp] theorem append_reg15 (p : Vec3) : (append p s).reg15 = s.reg15 := rfl
@[simp] theorem append_reg18 (p : Vec3) : (append p s).reg18 = s.reg18 := rfl
@[simp] theorem append_reg1A (p : Vec3) : (append p s).reg1A = s.reg1A := rfl
@[simp] theorem append_secStatus (p : Vec3) : (append p s).secStatus = s.secStatus := rfl
@[simp] theorem append_irqLine (p : Vec3) : (append p s).irqLine = s.irqLine := rfl
@[simp] theorem append_vpScratch (p : Vec3) : (append p s).vpScratch = s.vpScratch := rfl
@[simp] theorem append_viewports (p : Vec3) : (append p s).viewports = s.viewports := rfl
@[simp] theorem append_mvScratch (p : Vec3) : (append p s).mvScratch = s.mvScratch := rfl
@[simp] theorem append_modelviews (p : Vec3) : (append p s).modelviews = s.modelviews := rfl
@[simp] theorem append_matScratch (p : Vec3) : (append p s).matScratch = s.matScratch := rfl
@[simp] theorem append_materials (p : Vec3) : (append p s).materials = s.materials := rfl
@[simp] theorem append_thScratch (p : Vec3) : (append p s).thScratch = s.thScratch := rfl
@[simp] theorem append_texheads (p : Vec3) : (append p s).texheads = s.texheads := rfl
@[simp] theorem append_ltScratch (p : Vec3) : (append p s).ltScratch = s.ltScratch := rfl
@[simp] theorem append_lights (p : Vec3) : (append p s).lights = s.lights := rfl
@[simp] theorem append_lsScratch (p : Vec3) : (append p s).lsScratch = s.lsScratch := rfl
@[simp] theorem append_lightsets (p : Vec3) : (append p s).lightsets = s.lightsets := rfl
@[simp] theorem append_triOut (p : Vec3) : (append p s).triOut = s.triOut := rfl
@[simp] theorem append_cram (p : Vec3) : (append p s).cram = s.cram := rfl
@[simp] theorem append_powerUp (p : Vec3) : (append p s).powerUp = s.powerUp := rfl
@[simp] theorem append_budget (p : Vec3) : (append p s).budget = s.budget := rfl
@[simp] theorem append_inputs (p : Vec3) : (append p s).inputs = s.inputs := rfl
@[simp] theorem append_results (p : Vec3) : (append p s).results = s.results := rfl

/-! ## emit -/

@[simp] theorem emit_cfg (t : Triangle) : (emit t s).cfg = s.cfg := rfl
@[simp] theorem emit_pc (t : Triangle) : (emit t s).pc = s.pc := rfl
@[simp] theorem emit_sp (t : Triangle) : (emit t s).sp = s.sp := rfl
@[simp] theorem emit_running (t : Triangle) : (emit t s).running = s.running := rfl
@[simp] theorem emit_parity (t : Triangle) : (emit t s).parity = s.parity := rfl
@[simp] theorem emit_fault (t : Triangle) : (emit t s).fault = s.fault := rfl
@[simp] theorem emit_reg15 (t : Triangle) : (emit t s).reg15 = s.reg15 := rfl
@[simp] theorem emit_reg18 (t : Triangle) : (emit t s).reg18 = s.reg18 := rfl
@[simp] theorem emit_reg1A (t : Triangle) : (emit t s).reg1A = s.reg1A := rfl
@[simp] theorem emit_secStatus (t : Triangle) : (emit t s).secStatus = s.secStatus := rfl
@[simp] theorem emit_irqLine (t : Triangle) : (emit t s).irqLine = s.irqLine := rfl
@[simp] theorem emit_vpScratch (t : Triangle) : (emit t s).vpScratch = s.vpScratch := rfl
@[simp] theorem emit_viewports (t : Triangle) : (emit t s).viewports = s.viewports := rfl
@[simp] theorem emit_mvScratch (t : Triangle) : (emit t s).mvScratch = s.mvScratch := rfl
@[simp] theorem emit_modelviews (t : Triangle) : (emit t s).modelviews = s.modelviews := rfl
@[simp] theorem emit_matScratch (t : Triangle) : (emit t s).matScratch = s.matScratch := rfl
@[simp] theorem emit_materials (t : Triangle) : (emit t s).materials = s.materials := rfl
@[simp] theorem emit_thScratch (t : Triangle) : (emit t s).thScratch = s.thScratch := rfl
@[simp] theorem emit_texheads (t : Triangle) : (emit t s).texheads = s.texheads := rfl
@[simp] theorem emit_ltScratch (t : Triangle) : (emit t s).ltScratch = s.ltScratch := rfl
@[simp] theorem emit_lights (t : Triangle) : (emit t s).lights = s.lights := rfl
@[simp] theorem emit_lsScratch (t : Triangle) : (emit t s).lsScratch = s.lsScratch := rfl
@[simp] theorem emit_lightsets (t : Triangle) : (emit t s).lightsets = s.lightsets := rfl
@[simp] theorem emit_ring (t : Triangle) : (emit t s).ring = s.ring := rfl
@[simp] theorem emit_cursor (t : Triangle) : (emit t s).cursor = s.cursor := rfl
@[simp] theorem emit_cram (t : Triangle) : (emit t s).cram = s.cram := rfl
@[simp] theorem emit_powerUp (t : Triangle) : (emit t s).powerUp = s.powerUp := rfl
@[simp] theorem emit_draws (t : Triangle) : (emit t s).draws = s.draws := rfl
@[simp] theorem emit_budget (t : Triangle) : (emit t s).budget = s.budget := rfl
@[simp] theorem emit_inputs (t : Triangle) : (emit t s).inputs = s.inputs := rfl
@[simp] theorem emit_results (t : Triangle) : (emit t s).results = s.results := rfl

/-! ## loadSeeds -/

@[simp] theorem loadSeeds_cfg : (loadSeeds s).cfg = s.cfg := rfl
@[simp] theorem loadSeeds_parity : (loadSeeds s).parity = s.parity := rfl
@[simp] theorem loadSeeds_fault : (loadSeeds s).fault = s.fault := rfl
@[simp] theorem loadSeeds_reg15 : (loadSeeds s).reg15 = s.reg15 := rfl
@[simp] theorem loadSeeds_reg18 : (loadSeeds s).reg18 = s.reg18 := rfl
@[simp] theorem loadSeeds_reg1A : (loadSeeds s).reg1A = s.reg1A := rfl
@[simp] theorem loadSeeds_secStatus : (loadSeeds s).secStatus = s.secStatus := rfl
@[simp] theorem loadSeeds_irqLine : (loadSeeds s).irqLine = s.irqLine := rfl
@[simp] theorem loadSeeds_vpScratch : (loadSeeds s).vpScratch = s.vpScratch := rfl
@[simp] theorem loadSeeds_viewports : (loadSeeds s).viewports = s.viewports := rfl
@[simp] theorem loadSeeds_mvScratch : (loadSeeds s).mvScratch = s.mvScratch := rfl
@[simp] theorem loadSeeds_modelviews : (loadSeeds s).modelviews = s.modelviews := rfl
@[simp] theorem loadSeeds_matScratch : (loadSeeds s).matScratch = s.matScratch := rfl
@[simp] theorem loadSeeds_materials : (loadSeeds s).materials = s.materials := rfl
@[simp] theorem loadSeeds_thScratch : (loadSeeds s).thScratch = s.thScratch := rfl
@[simp] theorem loadSeeds_texheads : (loadSeeds s).texheads = s.texheads := rfl
@[simp] theorem loadSeeds_ltScratch : (loadSeeds s).ltScratch = s.ltScratch := rfl
@[simp] theorem loadSeeds_lights : (loadSeeds s).lights = s.lights := rfl
@[simp] theorem loadSeeds_lsScratch : (loadSeeds s).lsScratch = s.lsScratch := rfl
@[simp] theorem loadSeeds_lightsets : (loadSeeds s).lightsets = s.lightsets := rfl
@[simp] theorem loadSeeds_triOut : (loadSeeds s).triOut = s.triOut := rfl
@[simp] theorem loadSeeds_cram : (loadSeeds s).cram = s.cram := rfl
@[simp] theorem loadSeeds_powerUp : (loadSeeds s).powerUp = s.powerUp := rfl
@[simp] theorem loadSeeds_draws : (loadSeeds s).draws = s.draws := rfl
@[simp] theorem loadSeeds_budget : (loadSeeds s).budget = s.budget := rfl
@[simp] theorem loadSeeds_inputs : (loadSeeds s).inputs = s.inputs := rfl
@[simp] theorem loadSeeds_results : (loadSeeds s).results = s.results := rfl

/-! ## finish -/

@[simp] theorem finish_cfg (r : HostResult) : (finish r s).cfg = s.cfg := rfl
@[simp] theorem finish_pc (r : HostResult) : (finish r s).pc = s.pc := rfl
@[simp] theorem finish_sp (r : HostResult) : (finish r s).sp = s.sp := rfl
@[simp] theorem finish_running (r : HostResult) : (finish r s).running = s.running := rfl
@[simp] theorem finish_parity (r : HostResult) : (finish r s).parity = s.parity := rfl
@[simp] theorem finish_fault (r : HostResult) : (finish r s).fault = s.fault := rfl
@[simp] theorem finish_reg15 (r : HostResult) : (finish r s).reg15 = s.reg15 := rfl
@[simp] theorem finish_reg18 (r : HostResult) : (finish r s).reg18 = s.reg18 := rfl
@[simp] theorem finish_reg1A (r : HostResult) : (finish r s).reg1A = s.reg1A := rfl
@[simp] theorem finish_secStatus (r : HostResult) : (finish r s).secStatus = s.secStatus := rfl
@[simp] theorem finish_irqLine (r : HostResult) : (finish r s).irqLine = s.irqLine := rfl
@[simp] theorem finish_vpScratch (r : HostResult) : (finish r s).vpScratch = s.vpScratch := rfl
@[simp] theorem finish_viewports (r : HostResult) : (finish r s).viewports = s.viewports := rfl
@[simp] theorem finish_mvScratch (r : HostResult) : (finish r s).mvScratch = s.mvScratch := rfl
@[simp] theorem finish_modelviews (r : HostResult) : (finish r s).modelviews = s.modelviews := rfl
@[simp] theorem finish_matScratch (r : HostResult) : (finish r s).matScratch = s.matScratch := rfl
@[simp] theorem finish_materials (r : HostResult) : (finish r s).materials = s.materials := rfl
@[simp] theorem finish_thScratch (r : HostResult) : (finish r s).thScratch = s.thScratch := rfl
@[simp] theorem finish_texheads (r : HostResult) : (finish r s).texheads = s.texheads := rfl
@[simp] theorem finish_ltScratch (r : HostResult) : (finish r s).ltScratch = s.ltScratch := rfl
@[simp] theorem finish_lights (r : HostResult) : (finish r s).lights = s.lights := rfl
@[simp] theorem finish_lsScratch (r : HostResult) : (finish r s).lsScratch = s.lsScratch := rfl
@[simp] theorem finish_lightsets (r : HostResult) : (finish r s).lightsets = s.lightsets := rfl
@[simp] theorem finish_ring (r : HostResult) : (finish r s).ring = s.ring := rfl
@[simp] theorem finish_cursor (r : HostResult) : (finish r s).cursor = s.cursor := rfl
@[simp] theorem finish_triOut (r : HostResult) : (finish r s).triOut = s.triOut := rfl
@[simp] theorem finish_cram (r : HostResult) : (finish r s).cram = s.cram := rfl
@[simp] theorem finish_powerUp (r : HostResult) : (finish r s).powerUp = s.powerUp := rfl
@[simp] theorem finish_draws (r : HostResult) : (finish r s).draws = s.draws := rfl
@[simp] theorem finish_budget (r : HostResult) : (finish r s).budget = s.budget := rfl
@[simp] theorem finish_inputs (r : HostResult) : (finish r s).inputs = s.inputs := rfl

/-! ## endExec -/

@[simp] theorem endExec_cfg : (endExec s).cfg = s.cfg := rfl
@[simp] theorem endExec_pc : (endExec s).pc = s.pc := rfl
@[simp] theorem endExec_sp : (endExec s).sp = s.sp := rfl
@[simp] theorem endExec_running : (endExec s).running = s.running := rfl
@[simp] theorem endExec_parity : (endExec s).parity = s.parity := rfl
@[simp] theorem endExec_fault : (endExec s).fault = s.fault := rfl
@[simp] theorem endExec_reg15 : (endExec s).reg15 = s.reg15 := rfl
@[simp] theorem endExec_reg18 : (endExec s).reg18 = s.reg18 := rfl
@[simp] theorem endExec_reg1A : (endExec s).reg1A = s.reg1A := rfl
@[simp] theorem endExec_secStatus : (endExec s).secStatus = s.secStatus := rfl
@[simp] theorem endExec_irqLine : (endExec s).irqLine = s.irqLine := rfl
@[simp] theorem endExec_vpScratch : (endExec s).vpScratch = s.vpScratch := rfl
@[simp] theorem endExec_viewports : (endExec s).viewports = s.viewports := rfl
@[simp] theorem endExec_mvScratch : (endExec s).mvScratch = s.mvScratch := rfl
@[simp] theorem endExec_modelviews : (endExec s).modelviews = s.modelviews := rfl
@[simp] theorem endExec_matScratch : (endExec s).matScratch = s.matScratch := rfl
@[simp] theorem endExec_materials : (endExec s).materials = s.materials := rfl
@[simp] theorem endExec_thScratch : (endExec s).thScratch = s.thScratch := rfl
@[simp] theorem endExec_texheads : (endExec s).texheads = s.texheads := rfl
@[simp] theorem endExec_ltScratch : (endExec s).ltScratch = s.ltScratch := rfl
@[simp] theorem endExec_lights : (endExec s).lights = s.lights := rfl
@[simp] theorem endExec_lsScratch : (endExec s).lsScratch = s.lsScratch := rfl
@[simp] theorem endExec_lightsets : (endExec s).lightsets = s.lightsets := rfl
@[simp] theorem endExec_ring : (endExec s).ring = s.ring := rfl
@[simp] theorem endExec_cursor : (endExec s).cursor = s.cursor := rfl
@[simp] theorem endExec_triOut : (endExec s).triOut = s.triOut := rfl
@[simp] theorem endExec_cram : (endExec s).cram = s.cram := rfl
@[simp] theorem endExec_powerUp : (endExec s).powerUp = s.powerUp := rfl
@[simp] theorem endExec_draws : (endExec s).draws = s.draws := rfl
@[simp] theorem endExec_inputs : (endExec s).inputs = s.inputs := rfl

/-! ## setParity -/

@[simp] theorem setParity_cfg (p : Fin 2) : (setParity p s).cfg = s.cfg := rfl
@[simp] theorem setParity_pc (p : Fin 2) : (setParity p s).pc = s.pc := rfl
@[simp] theorem setParity_sp (p : Fin 2) : (setParity p s).sp = s.sp := rfl
@[simp] theorem setParity_running (p : Fin 2) : (setParity p s).running = s.running := rfl
@[simp] theorem setParity_fault (p : Fin 2) : (setParity p s).fault = s.fault := rfl
@[simp] theorem setParity_reg15 (p : Fin 2) : (setParity p s).reg15 = s.reg15 := rfl
@[simp] theorem setParity_reg18 (p : Fin 2) : (setParity p s).reg18 = s.reg18 := rfl
@[simp] theorem setParity_reg1A (p : Fin 2) : (setParity p s).reg1A = s.reg1A := rfl
@[simp] theorem setParity_secStatus (p : Fin 2) : (setParity p s).secStatus = s.secStatus := rfl
@[simp] theorem setParity_irqLine (p : Fin 2) : (setParity p s).irqLine = s.irqLine := rfl
@[simp] theorem setParity_vpScratch (p : Fin 2) : (setParity p s).vpScratch = s.vpScratch := rfl
@[simp] theorem setParity_viewports (p : Fin 2) : (setParity p s).viewports = s.viewports := rfl
@[simp] theorem setParity_mvScratch (p : Fin 2) : (setParity p s).mvScratch = s.mvScratch := rfl
@[simp] theorem setParity_modelviews (p : Fin 2) : (setParity p s).modelviews = s.modelviews := rfl
@[simp] theorem setParity_matScratch (p : Fin 2) : (setParity p s).matScratch = s.matScratch := rfl
@[simp] theorem setParity_materials (p : Fin 2) : (setParity p s).materials = s.materials := rfl
@[simp] theorem setParity_thScratch (p : Fin 2) : (setParity p s).thScratch = s.thScratch := rfl
@[simp] theorem setParity_texheads (p : Fin 2) : (setParity p s).texheads = s.texheads := rfl
@[simp] theorem setParity_ltScratch (p : Fin 2) : (setParity p s).ltScratch = s.ltScratch := rfl
@[simp] theorem setParity_lights (p : Fin 2) : (setParity p s).lights = s.lights := rfl
@[simp] theorem setParity_lsScratch (p : Fin 2) : (setParity p s).lsScratch = s.lsScratch := rfl
@[simp] theorem setParity_lightsets (p : Fin 2) : (setParity p s).lightsets = s.lightsets := rfl
@[simp] theorem setParity_ring (p : Fin 2) : (setParity p s).ring = s.ring := rfl
@[simp] theorem setParity_cursor (p : Fin 2) : (setParity p s).cursor = s.cursor := rfl
@[simp] theorem setParity_triOut (p : Fin 2) : (setParity p s).triOut = s.triOut := rfl
@[simp] theorem setParity_cram (p : Fin 2) : (setParity p s).cram = s.cram := rfl
@[simp] theorem setParity_powerUp (p : Fin 2) : (setParity p s).powerUp = s.powerUp := rfl
@[simp] theorem setParity_draws (p : Fin 2) : (setParity p s).draws = s.draws := rfl
@[simp] theorem setParity_budget (p : Fin 2) : (setParity p s).budget = s.budget := rfl
@[simp] theorem setParity_inputs (p : Fin 2) : (setParity p s).inputs = s.inputs := rfl
@[simp] theorem setParity_results (p : Fin 2) : (setParity p s).results = s.results := rfl

/-! ## The fields the updates write -/

@[simp] theorem setPc_pc (t : Word) : (setPc t s).pc = t := rfl
@[simp] theorem advance_pc (m : Mnemonic) : (advance m s).pc = s.pc + BitVec.ofNat 32 (s.cfg.format m).bytes := rfl
@[simp] theorem memWrite_cram (a v : Word) : (memWrite a v s).cram = storeWord s.cfg s.cram a v := rfl
@[simp] theorem setActiveSp_sp (v : Word) : (setActiveSp v s).sp = s.sp.set s.parity v := rfl
@[simp] theorem setVpPart_vpScratch (k : Fin 6) (ws : List Word) :
    (setVpPart k ws s).vpScratch = s.vpScratch.set k (some ws) := rfl
@[simp] theorem setMvRow_mvScratch (r : Fin 4) (row : Vec3) :
    (setMvRow r row s).mvScratch = s.mvScratch.set r (some row) := rfl
@[simp] theorem aggregate_secStatus : (aggregate s).secStatus = secOfCauses s := rfl
@[simp] theorem ringClear_ring : (ringClear s).ring = emptyRing := rfl
@[simp] theorem ringClear_cursor : (ringClear s).cursor = 0 := rfl
@[simp] theorem append_cursor (p : Vec3) : (append p s).cursor = s.cursor + 1 := rfl
@[simp] theorem append_draws (p : Vec3) : (append p s).draws = s.draws + 2 := rfl
@[simp] theorem append_ring (p : Vec3) :
    (append p s).ring = s.ring.set s.cursor (some (normalise s.cfg s.draws p)) := rfl
@[simp] theorem emit_triOut (t : Triangle) : (emit t s).triOut = s.triOut ++ [t] := rfl
@[simp] theorem loadSeeds_pc : (loadSeeds s).pc = s.reg .b15 s.cfg.offPcSeed := rfl
@[simp] theorem loadSeeds_running : (loadSeeds s).running = true := rfl
@[simp] theorem finish_results (r : HostResult) : (finish r s).results = s.results ++ [r] := rfl
@[simp] theorem endExec_results : (endExec s).results = s.results ++ [.done] := rfl
@[simp] theorem endExec_budget : (endExec s).budget = none := rfl
@[simp] theorem setParity_parity (p : Fin 2) : (setParity p s).parity = p := rfl

theorem raise_fault_of_none (r : FaultReason) (h : s.fault = none) : (raise r s).fault = some r := by
  simp [raise, h]

theorem raise_fault_of_some (r q : FaultReason) (h : s.fault = some q) : (raise r s).fault = some q := by
  simp [raise, h]

/-- A raise leaves the device faulted (R294). -/
theorem raise_fault_isSome (r : FaultReason) : (raise r s).fault.isSome = true := by
  cases h : s.fault <;> simp [raise, h]

/-- A state is its own fields: two updates that write the same fields with the same values are equal. -/
theorem raise_eq_of_none (r : FaultReason) (h : s.fault = none) : raise r s = { s with fault := some r } := by
  simp [raise, h]

end Sys2Proof.Machine
end

