-- ==== Sys2Proof/Laws/Storage.lean ====
section
/-! SUPPORT. The laws of storage: what a keyed list reads after a write, that every operation keeps the canonical forms, and
the read-after-write laws of register blocks, tables and command RAM. -/

namespace Sys2Proof.Machine

variable {β : Type}

/-! ## Keyed lists -/

@[simp] theorem lookupKey_nil (a : Nat) : lookupKey ([] : List (Nat × β)) a = none := rfl

theorem lookupKey_cons (k : Nat) (v : β) (t : List (Nat × β)) (a : Nat) :
    lookupKey ((k, v) :: t) a = if k = a then some v else lookupKey t a := rfl

/-- What is listed after a write, at every key. -/
theorem lookupKey_putKey (l : List (Nat × β)) (a b : Nat) (v : β) :
    lookupKey (putKey l a v) b = if a = b then some v else lookupKey l b := by
  induction l with
  | nil => rfl
  | cons p t ih =>
    obtain ⟨k, w⟩ := p
    simp only [putKey]
    split
    · rfl
    · split
      · rename_i h
        subst h
        by_cases hb : a = b <;> simp [lookupKey_cons, hb]
      · rename_i h
        by_cases hk : k = b
        · subst hk
          simp [lookupKey_cons, h]
        · simp [lookupKey_cons, hk, ih]

/-- What is listed after a key is dropped, at every key. -/
theorem lookupKey_dropKey (l : List (Nat × β)) (a b : Nat) :
    lookupKey (dropKey l a) b = if a = b then none else lookupKey l b := by
  induction l with
  | nil => simp [dropKey]
  | cons p t ih =>
    obtain ⟨k, w⟩ := p
    simp only [dropKey] at ih ⊢
    by_cases hk : k = a
    · subst hk
      by_cases hb : k = b <;> simp_all [lookupKey_cons]
    · by_cases hb : a = b
      · subst hb
        simp_all [lookupKey_cons]
      · simp_all [lookupKey_cons]

theorem mem_putKey {l : List (Nat × β)} {a : Nat} {v : β} {p : Nat × β} (h : p ∈ putKey l a v) :
    p = (a, v) ∨ p ∈ l := by
  induction l with
  | nil => simpa [putKey] using h
  | cons q t ih =>
    simp only [putKey] at h
    split at h
    · simpa using h
    · split at h
      · rcases List.mem_cons.mp h with h | h
        · exact .inl h
        · exact .inr (List.mem_cons_of_mem _ h)
      · rcases List.mem_cons.mp h with h | h
        · exact .inr (h ▸ List.mem_cons_self)
        · exact (ih h).imp id (List.mem_cons_of_mem _)

theorem mem_dropKey {l : List (Nat × β)} {a : Nat} {p : Nat × β} (h : p ∈ dropKey l a) : p ∈ l :=
  (List.mem_filter.mp h).1

@[simp] theorem RisingKeys_nil : RisingKeys ([] : List (Nat × β)) := List.Pairwise.nil

theorem RisingKeys_cons {k : Nat} {v : β} {t : List (Nat × β)} :
    RisingKeys ((k, v) :: t) ↔ (∀ p ∈ t, k < p.1) ∧ RisingKeys t := by
  simp [RisingKeys, List.pairwise_cons]

/-- A write keeps the keys rising. -/
theorem RisingKeys.put {l : List (Nat × β)} (h : RisingKeys l) (a : Nat) (v : β) : RisingKeys (putKey l a v) := by
  induction l with
  | nil => simp [putKey, RisingKeys]
  | cons q t ih =>
    obtain ⟨k, w⟩ := q
    obtain ⟨h1, h2⟩ := RisingKeys_cons.mp h
    simp only [putKey]
    split
    · rename_i hlt
      refine RisingKeys_cons.mpr ⟨fun p hp => ?_, h⟩
      rcases List.mem_cons.mp hp with rfl | hp
      · exact hlt
      · exact hlt.trans (h1 p hp)
    · split
      · rename_i heq
        subst heq
        exact RisingKeys_cons.mpr ⟨h1, h2⟩
      · refine RisingKeys_cons.mpr ⟨fun p hp => ?_, ih h2⟩
        rcases mem_putKey hp with rfl | hp
        · simp only
          omega
        · exact h1 p hp

/-- Dropping a key keeps the keys rising. -/
theorem RisingKeys.drop {l : List (Nat × β)} (h : RisingKeys l) (a : Nat) : RisingKeys (dropKey l a) :=
  List.Pairwise.sublist (List.filter_sublist.map Prod.fst) h

/-! ## Command RAM -/

theorem Memory.wf_storeByte {m : Memory} (h : Memory.wf m) (c : Cfg) (a : Word) (b : Byte) :
    Memory.wf (storeByte c m a b) :=
  RisingKeys.put h _ _

theorem Memory.wf_storeWord {m : Memory} (h : Memory.wf m) (c : Cfg) (a v : Word) : Memory.wf (storeWord c m a v) :=
  Memory.wf_storeByte (Memory.wf_storeByte (Memory.wf_storeByte (Memory.wf_storeByte h _ _ _) _ _ _) _ _ _) _ _ _

/-- Every operation that writes command RAM keeps its canonical form. -/
theorem Memory.wf_memWrite {s : State} (h : Memory.wf s.cram) (a v : Word) : Memory.wf (memWrite a v s).cram :=
  Memory.wf_storeWord h _ _ _

theorem Memory.wf_cramStore {s : State} (h : Memory.wf s.cram) (a : Word) (n : CramWidth) (v : Word) :
    Memory.wf (cramStore a n v s).cram := by
  cases n
  · exact Memory.wf_storeByte h _ _ _
  · exact Memory.wf_storeByte (Memory.wf_storeByte h _ _ _) _ _ _
  · exact Memory.wf_memWrite h _ _

theorem Memory.wf_reset : Memory.wf State.reset.cram := RisingKeys_nil

theorem byteAt_eq (s : State) (loc : Nat) :
    s.byteAt loc = (lookupKey s.cram loc).getD (Config.powerUpByte s.powerUp loc) := by
  unfold State.byteAt
  cases lookupKey s.cram loc <;> rfl

/-- What every location holds after a byte is stored. -/
theorem lookupKey_storeByte (c : Cfg) (m : Memory) (a : Word) (b : Byte) (loc : Nat) :
    lookupKey (storeByte c m a b) loc = if storageLoc c a = loc then some b else lookupKey m loc :=
  lookupKey_putKey _ _ _ _

/-- A location that none of the four bytes of a word has keeps its byte (R60). -/
theorem byteAt_memWrite_of_ne (s : State) (a v : Word) (loc : Nat)
    (h0 : storageLoc s.cfg a ≠ loc) (h1 : storageLoc s.cfg (a + 1) ≠ loc)
    (h2 : storageLoc s.cfg (a + 2) ≠ loc) (h3 : storageLoc s.cfg (a + 3) ≠ loc) :
    (memWrite a v s).byteAt loc = s.byteAt loc := by
  simp only [byteAt_eq, memWrite, storeWord, lookupKey_storeByte, if_neg h0, if_neg h1, if_neg h2, if_neg h3]

theorem join_byteOf (e : Endian) (v : Word) :
    e.join (e.byteOf v 0) (e.byteOf v 1) (e.byteOf v 2) (e.byteOf v 3) = v := by
  cases e <;>
    · apply BitVec.eq_of_getLsbD_eq
      intro i hi
      simp only [Endian.join, Endian.byteOf, BitVec.getLsbD_append, BitVec.getLsbD_extractLsb']
      by_cases h1 : i < 8
      · simp [h1]
      · by_cases h2 : i - 8 < 8
        · simp [h1, h2]
          congr 1
          omega
        · by_cases h3 : i - 8 - 8 < 8
          · simp [h1, h2, h3]
            congr 1
            omega
          · have h4 : i - 8 - 8 - 8 < 8 := by omega
            simp [h1, h2, h3, h4]
            congr 1
            omega

/-- A word read back where it was written, the four bytes having storage of their own (R60, R61). -/
theorem memRead_memWrite_same (s : State) (a v : Word)
    (h : [storageLoc s.cfg a, storageLoc s.cfg (a + 1), storageLoc s.cfg (a + 2), storageLoc s.cfg (a + 3)].Nodup) :
    memRead (memWrite a v s) a = v := by
  simp only [List.nodup_cons, List.mem_cons, List.not_mem_nil, or_false, not_or, not_false_eq_true, List.nodup_nil,
    and_true] at h
  obtain ⟨⟨h01, h02, h03⟩, ⟨h12, h13⟩, h23⟩ := h
  simp only [memRead, State.readByte, byteAt_eq, memWrite, storeWord, lookupKey_storeByte, if_true,
    Ne.symm h01, Ne.symm h02, Ne.symm h03, Ne.symm h12, Ne.symm h13, Ne.symm h23, if_false, Option.getD_some]
  exact join_byteOf _ v

/-! ## Register blocks -/

theorem RegBlock.get_nil (o : Nat) : RegBlock.get [] o = 0 := rfl

/-- What every offset of a block reads after a write. -/
@[simp] theorem RegBlock.get_set (l : RegBlock) (o p : Nat) (v : Word) :
    (l.set o v).get p = if o = p then v else l.get p := by
  unfold RegBlock.get RegBlock.set
  by_cases hv : v = 0
  · subst hv
    rw [if_pos rfl, lookupKey_dropKey]
    split <;> rfl
  · rw [if_neg hv, lookupKey_putKey]
    split <;> rfl

theorem RegBlock.wf_set {l : RegBlock} (h : RegBlock.wf l) (o : Nat) (v : Word) : RegBlock.wf (l.set o v) := by
  unfold RegBlock.set
  split
  · exact ⟨h.1.drop _, fun p hp => h.2 p (mem_dropKey hp)⟩
  · rename_i hv
    refine ⟨h.1.put _ _, fun p hp => ?_⟩
    rcases mem_putKey hp with rfl | hp
    · exact hv
    · exact h.2 p hp

/-- What every register reads after `Regb[o] <- v` (R12). -/
theorem reg_setReg (s : State) (b c : Block) (o p : Nat) (v : Word) :
    (setReg b o v s).reg c p = if b = c ∧ o = p then v else s.reg c p := by
  cases b <;> cases c <;> simp [setReg, State.reg]

/-! ## State tables -/

/-- What every slot of a table holds after a write. -/
theorem Table.get_put {α : Type} (t : Table α) (i j : Nat) (v : Slot α) :
    Table.get (Table.put t i v) j = if i = j then v else Table.get t j := by
  unfold Table.get Table.put
  rw [lookupKey_putKey]
  split <;> rfl

theorem Table.wf_put {α : Type} {n : Nat} {t : Table α} (h : Table.wf n t) (i : Nat) (hi : i < n) (v : α) :
    Table.wf n (Table.put t i (committedSlot v)) := by
  refine ⟨h.1.put _ _, fun p hp => ?_⟩
  rcases mem_putKey hp with rfl | hp
  · exact ⟨hi, rfl⟩
  · exact h.2 p hp

end Sys2Proof.Machine
end

