-- ==== Sys2Proof/Laws/Interrupt.lean ====
section
/-! SUPPORT. The laws of the interrupt controller and of the busy bits, register by register: what `Aggregate()`, a raise of one
cause and the clearing of bits leave at every location (R107, R296, R297). -/

namespace Sys2Proof.Machine

/-! ## Aggregate (R296) -/

theorem getLsbD_secOfCauses (s : State) (i : Fin 4) : (secOfCauses s).getLsbD i.val = (s.cause i).getLsbD 0 := by
  match i with
  | 0 | 1 | 2 | 3 =>
    unfold secOfCauses
    rw [BitVec.getLsbD_append, BitVec.getLsbD_append, BitVec.getLsbD_append]
    simp

theorem secOfCauses_eq_zero_iff (s : State) : secOfCauses s = 0 ↔ ∀ i : Fin 4, (s.cause i).getLsbD 0 = false := by
  refine ⟨fun h i => by rw [← getLsbD_secOfCauses, h]; simp, fun h => ?_⟩
  apply BitVec.eq_of_getLsbD_eq
  intro i hi
  simpa using (getLsbD_secOfCauses s ⟨i, hi⟩).trans (h ⟨i, hi⟩)

theorem summaryStatus_secOfCauses (s : State) (x : Word) : summaryStatus (secOfCauses s) x = x ||| summaryBit s := by
  unfold summaryStatus summaryBit
  by_cases h : ∀ i : Fin 4, (s.cause i).getLsbD 0 = false
  · rw [if_pos ((secOfCauses_eq_zero_iff s).mpr h), if_pos h]
    simp
  · rw [if_neg (fun h' => h ((secOfCauses_eq_zero_iff s).mp h')), if_neg h]

/-- `Aggregate()` writes no register but the main status. -/
theorem reg_aggregate_of_ne (s : State) (b : Block) (o : Nat) (h : (b, o) ≠ (.b15, 0x88)) :
    (aggregate s).reg b o = s.reg b o := by
  cases b <;> simp [State.reg, aggregate, offStatus] at h ⊢
  exact fun h' => absurd h'.symm h

@[simp] theorem mainStatus_aggregate (s : State) : (aggregate s).mainStatus = s.mainStatus ||| summaryBit s := by
  rw [← summaryStatus_secOfCauses]
  simp [State.mainStatus, aggregate, State.reg]

@[simp] theorem mainMask_aggregate (s : State) : (aggregate s).mainMask = s.mainMask :=
  reg_aggregate_of_ne _ _ _ (by simp [offMask])

@[simp] theorem cause_aggregate (s : State) (i : Fin 4) : (aggregate s).cause i = s.cause i :=
  reg_aggregate_of_ne _ _ _ (by simp)

@[simp] theorem summaryBit_aggregate (s : State) : summaryBit (aggregate s) = summaryBit s := by simp [summaryBit]

/-! ## Raising a cause and clearing bits -/

/-- What every offset of block 1A reads after cause `i` is raised where `sec` has it (R297). -/
theorem get_raiseCause (sec : BitVec 4) (i : Fin 4) (l : RegBlock) (o : Nat) :
    (raiseCause sec i l).get o = if sec.getLsbD i.val = true ∧ offCause i = o then l.get o ||| 1 else l.get o := by
  unfold raiseCause
  by_cases h : sec.getLsbD i.val = true
  · by_cases ho : offCause i = o
    · subst ho
      simp [h]
    · simp [h, ho]
  · rw [if_neg h, if_neg (fun x => h x.1)]

/-- What every register reads after bits of one are cleared (R107, R251). -/
theorem reg_clearBits (r : RegBits) (s : State) (b : Block) (o : Nat) :
    (clearBits r s).reg b o = s.reg b o &&& (if r.block = b ∧ r.offset = o then ~~~r.mask else 0xFFFFFFFF) := by
  have all : (0xFFFFFFFF : Word) = BitVec.allOnes 32 := rfl
  unfold clearBits
  rw [reg_setReg]
  split
  · rename_i h
    obtain ⟨rfl, rfl⟩ := h
    rfl
  · rw [all, BitVec.and_allOnes]

/-- Writing a word twice is writing it once. -/
theorem RegBlock.set_set (l : RegBlock) (o : Nat) (v : Word) : (l.set o v).set o v = l.set o v := by
  unfold RegBlock.set
  by_cases hv : v = 0
  · simp [hv, dropKey]
  · simp only [if_neg hv]
    induction l with
    | nil => simp [putKey]
    | cons p t ih =>
      obtain ⟨k, w⟩ := p
      simp only [putKey]
      split
      · simp [putKey]
      · split
        · simp [putKey]
        · rename_i h1 h2
          simp [putKey, h1, h2, ih]

end Sys2Proof.Machine
end

