-- ==== Sys2Proof/Laws/Ops.lean ====
section
/-! SUPPORT. What each shared operation can do, said once: a proof cites these instead of unfolding the operation. -/

namespace Sys2Proof.Machine

/-! ## The invariant check (R106) -/

theorem invariantFault_eq_none_iff (s : State) :
    invariantFault s = none ↔
      codeAddress s.cfg s.pc = true ∧ codeAddress s.cfg (s.sp.get 0) = true ∧ codeAddress s.cfg (s.sp.get 1) = true := by
  unfold invariantFault
  cases codeAddress s.cfg s.pc <;> cases codeAddress s.cfg (s.sp.get 0) <;> cases codeAddress s.cfg (s.sp.get 1) <;> simp

/-- The check either passes and changes nothing, or raises the first condition that fails. -/
theorem checkInvariant_cases (s : State) :
    (checkInvariant s = s ∧ codeAddress s.cfg s.pc = true ∧ ∀ p : Fin 2, codeAddress s.cfg (s.sp.get p) = true)
      ∨ ∃ r, invariantFault s = some r ∧ checkInvariant s = raise r s := by
  cases h : invariantFault s with
  | none =>
    obtain ⟨h1, h2, h3⟩ := (invariantFault_eq_none_iff s).mp h
    refine .inl ⟨by simp [checkInvariant, h], h1, fun p => ?_⟩
    match p with
    | 0 => exact h2
    | 1 => exact h3
  | some r => exact .inr ⟨r, rfl, by simp [checkInvariant, h]⟩

/-! ## The state-table manager (R141) -/

/-- A commit of the viewport scratch either copies it into a slot below 8 or is out of range. -/
theorem commit_viewport (i : Nat) (s : State) :
    commit .viewport i s =
      if i < 8 then .ok { s with viewports := Table.put s.viewports i (committedSlot s.vpScratch) }
      else .error (.indexOutOfRange .viewport i) := rfl

/-! ## The vertex assembler (R191, R192) -/

/-- The slot just written is the most recent one. -/
theorem recentSlot_append (p : Vec3) (s : State) : recentSlot (append p s) 0 = s.cursor := by
  simp [recentSlot, append]

/-- `emit_triangle` on a full ring hands out the three positions, most recent first, and changes nothing else but the count
of draws. -/
theorem emitTriangle_full (u0 u1 u2 : UV) (s : State) {p0 p1 p2 : Vec3}
    (h0 : recentPos s 0 = some p0) (h1 : recentPos s 1 = some p1) (h2 : recentPos s 2 = some p2) :
    emitTriangle u0 u1 u2 s = .ok (emit
      ⟨⟨p0, normaliseUV s.cfg s.draws u0⟩, ⟨p1, normaliseUV s.cfg (s.draws + 2) u1⟩,
        ⟨p2, normaliseUV s.cfg (s.draws + 4) u2⟩⟩ { s with draws := s.draws + 6 }) := by
  simp [emitTriangle, h0, h1, h2]

/-- `emit_triangle` fails only by an empty slot, the first one in its order. -/
theorem emitTriangle_error {u0 u1 u2 : UV} {s : State} {r : FaultReason} (h : emitTriangle u0 u1 u2 s = .error r) :
    ∃ i : Fin 3, recentPos s i = none ∧ r = .emptyRingSlot (recentSlot s i) s.pc := by
  unfold emitTriangle at h
  split at h
  · rename_i h0
    exact ⟨0, h0, by simpa using h.symm⟩
  · rename_i h1
    exact ⟨1, h1, by simpa using h.symm⟩
  · rename_i h2
    exact ⟨2, h2, by simpa using h.symm⟩
  · cases h

/-! ## The loop of Exec (R101) -/

theorem loopRuns_iff (b : Nat) (s : State) : loopRuns b s = true ↔ s.fault = none ∧ s.running = true ∧ b ≠ 0 := by
  simp [loopRuns, Option.isNone_iff_eq_none, and_assoc]

/-- After an instruction the `Exec` goes on with what is left of its budget, or ends. -/
theorem continueExec_cases (b : Nat) (s : State) :
    (continueExec b s = { s with budget := some b } ∧ s.fault = none ∧ s.running = true ∧ b ≠ 0)
      ∨ continueExec b s = endExec s := by
  unfold continueExec
  split
  · rename_i h
    exact .inl ⟨rfl, (loopRuns_iff b s).mp h⟩
  · exact .inr rfl

/-! ## The indirect DMA stepper (R281) -/

/-- The four things an IDMA step can do. -/
theorem idmaStep_cases (s : State) :
    (s.idmaCount = 0 ∧ idmaStep s = s)
      ∨ (∃ r, s.idmaCount ≠ 0 ∧ idmaAddressFault s.cfg s.idmaAddr (Config.draw s.draws) = some r
          ∧ idmaStep s = raise r { s with draws := s.draws + 1 })
      ∨ (s.idmaCount ≠ 0 ∧ idmaLength s s.idmaAddr = 0 ∧ idmaStep s = s)
      ∨ (s.idmaCount ≠ 0 ∧ idmaLength s s.idmaAddr ≠ 0 ∧ idmaStep s = idmaConsume s) := by
  by_cases hk : s.idmaCount = 0
  · exact .inl ⟨hk, if_pos hk⟩
  · have h0 : idmaStep s = _ := if_neg hk
    cases hf : idmaAddressFault s.cfg s.idmaAddr (Config.draw s.draws) with
    | some r =>
      rw [hf] at h0
      exact .inr (.inl ⟨r, hk, rfl, h0⟩)
    | none =>
      rw [hf] at h0
      by_cases hl : idmaLength s s.idmaAddr = 0
      · exact .inr (.inr (.inl ⟨hk, hl, h0.trans (if_pos hl)⟩))
      · exact .inr (.inr (.inr ⟨hk, hl, h0.trans (if_neg hl)⟩))

/-- An IDMA address is accepted exactly when it is marked and 4-aligned (R281). -/
theorem idmaAddressFault_eq_none_iff (c : Cfg) (a d : Word) :
    idmaAddressFault c a d = none ↔ idmaMarked c a = true ∧ aligned4 a = true := by
  unfold idmaAddressFault
  cases idmaMarked c a <;> cases aligned4 a <;> cases d.getLsbD 0 <;> simp

/-! ## Host operations (R250) -/

/-- A device operation on a faulted device only reports it. -/
theorem onDevice_faulted (f : State → State) (s : State) {r : FaultReason} (h : s.fault = some r) :
    onDevice f s = finish .faulted s := by
  simp [onDevice, h]

theorem onDevice_unfaulted (f : State → State) (s : State) (h : s.fault = none) : onDevice f s = f s := by
  simp [onDevice, h]

/-- Every host operation but an illegal access to command RAM answers a next state. -/
theorem hostOp_next_or_fault (op : HostOp) (s : State) :
    (∃ t, hostOp op s = .next t) ∨ ∃ a n, cramAligned a n = false ∧ hostOp op s = .fault (.illegalCramAccess a n) := by
  cases op with
  | cramRead a n =>
    cases h : cramAligned a n
    · exact .inr ⟨a, n, h, by simp [hostOp, h]⟩
    · exact .inl ⟨finish (.value (cramValue s a n)) s, by simp [hostOp, h]⟩
  | cramWrite a n v =>
    cases h : cramAligned a n
    · exact .inr ⟨a, n, h, by simp [hostOp, h]⟩
    · exact .inl ⟨finish .done (cramStore a n v s), by simp [hostOp, h]⟩
  | exec n => exact .inl ⟨_, rfl⟩
  | regRead addr n => exact .inl ⟨_, rfl⟩
  | regWrite addr n v => exact .inl ⟨_, rfl⟩
  | reset => exact .inl ⟨_, rfl⟩
  | setParity p => exact .inl ⟨_, rfl⟩

/-! ## The step -/

/-- Between host operations, a step takes the first one waiting, or does not move the device. -/
theorem step_between (s : State) (h : s.budget = none) : step s = hostStep s := by simp [step, transition, h]

/-- Inside an `Exec`, a step is one turn of its loop. -/
theorem step_inside (s : State) {b : Nat} (h : s.budget = some b) : step s = execStep b s := by
  simp [step, transition, h]

theorem hostStep_op (s : State) {op : HostOp} {rest : List HostOp} (h : s.inputs = op :: rest) :
    hostStep s = hostOp op { s with inputs := rest } := by
  simp [hostStep, h]

end Sys2Proof.Machine
end

