-- ==== Sys2Proof/Laws/PerInstr.lean ====
section
/-! SUPPORT. Statements made for every instruction, one lemma per constructor. The family `EncodeLength`: a well-formed
instruction is encoded in as many words as its length says (R82, R83, R91). -/

namespace Sys2Proof.Laws.EncodeLength

open Sys2Proof

/-- The encoding of a well-formed instruction has the length of its mnemonic (R82, R91). -/
def Statement (i : Instr) : Prop :=
  ∀ c : Cfg, i.wf c = true → (c.encode i).length = (c.format i.mnemonic).words

theorem nop : Statement .nop := fun _ _ => rfl
theorem jump (w1 : Word) : Statement (.jump w1) := fun _ _ => rfl
theorem call (w1 : Word) : Statement (.call w1) := fun _ _ => rfl
theorem ret : Statement .ret := fun c _ => by
  cases h : c.lenRet <;> simp [Cfg.encode, Instr.mnemonic, Cfg.format, Format.words, h]
theorem kill : Statement .kill := fun _ _ => rfl
theorem sync (s0 s1 s2 s3 : BitVec 2) : Statement (.sync s0 s1 s2 s3) := fun _ _ => rfl
theorem clearA (w1 : Word) : Statement (.clearA w1) := fun _ _ => rfl
theorem clearB (w1 : Word) : Statement (.clearB w1) := fun _ _ => rfl
theorem vpSet0 (attr : BitVec 20) (ws : List Word) : Statement (.vpSet0 attr ws) := fun c h => by
  simp only [Instr.wf, Cfg.tailLength, Bool.and_eq_true, decide_eq_true_eq] at h
  exact h.1.2
theorem vpSet1 (attr : BitVec 20) (ws : List Word) : Statement (.vpSet1 attr ws) := fun c h => by
  simp only [Instr.wf, Cfg.tailLength, Bool.and_eq_true, decide_eq_true_eq] at h
  exact h.1.2
theorem vpSet2 (attr : BitVec 20) (ws : List Word) : Statement (.vpSet2 attr ws) := fun c h => by
  simp only [Instr.wf, Cfg.tailLength, Bool.and_eq_true, decide_eq_true_eq] at h
  exact h.1.2
theorem vpSet3 (attr : BitVec 20) (ws : List Word) : Statement (.vpSet3 attr ws) := fun c h => by
  simp only [Instr.wf, Cfg.tailLength, Bool.and_eq_true, decide_eq_true_eq] at h
  exact h.1.2
theorem vpSet4 (attr : BitVec 20) (ws : List Word) : Statement (.vpSet4 attr ws) := fun c h => by
  simp only [Instr.wf, Cfg.tailLength, Bool.and_eq_true, decide_eq_true_eq] at h
  exact h.1.2
theorem vpSet5 (attr : BitVec 20) (ws : List Word) : Statement (.vpSet5 attr ws) := fun c h => by
  simp only [Instr.wf, Cfg.tailLength, Bool.and_eq_true, decide_eq_true_eq] at h
  exact h.1.2
theorem vpCommit (n : BitVec 3) : Statement (.vpCommit n) := fun _ _ => rfl
theorem vpRecall (n p q : Word) : Statement (.vpRecall n p q) := fun _ _ => rfl
theorem colorSet0 (attr : BitVec 20) (w1 : Word) : Statement (.colorSet0 attr w1) := fun _ _ => rfl
theorem colorSet2 (attr : BitVec 20) (w1 : Word) : Statement (.colorSet2 attr w1) := fun _ _ => rfl
theorem colorSet4 (attr : BitVec 20) (w1 : Word) : Statement (.colorSet4 attr w1) := fun _ _ => rfl
theorem colorSet6 (attr : BitVec 20) (w1 : Word) : Statement (.colorSet6 attr w1) := fun _ _ => rfl
theorem colorCommit (count modifier : Word) : Statement (.colorCommit count modifier) := fun _ _ => rfl
theorem colorRecall (count modifier : Word) : Statement (.colorRecall count modifier) := fun _ _ => rfl
theorem texSet0 (attr : BitVec 20) : Statement (.texSet0 attr) := fun _ _ => rfl
theorem texSet2 (attr : BitVec 20) : Statement (.texSet2 attr) := fun _ _ => rfl
theorem texSet4 (attr : BitVec 20) : Statement (.texSet4 attr) := fun _ _ => rfl
theorem texCommit (attr : BitVec 20) : Statement (.texCommit attr) := fun _ _ => rfl
theorem texRecall (attr : BitVec 20) : Statement (.texRecall attr) := fun _ _ => rfl
theorem mtxSet0 (index : BitVec 3) (mid sub : BitVec 2) (x y z : F32) : Statement (.mtxSet0 index mid sub x y z) := fun _ _ => rfl
theorem mtxSet1 (index : BitVec 3) (mid sub : BitVec 2) (x y z : F32) : Statement (.mtxSet1 index mid sub x y z) := fun _ _ => rfl
theorem mtxSet2 (index : BitVec 3) (mid sub : BitVec 2) (x y z : F32) : Statement (.mtxSet2 index mid sub x y z) := fun _ _ => rfl
theorem mtxSet3 (index : BitVec 3) (mid sub : BitVec 2) (x y z : F32) : Statement (.mtxSet3 index mid sub x y z) := fun _ _ => rfl
theorem mtxCommit (index : BitVec 3) : Statement (.mtxCommit index) := fun _ _ => rfl
theorem vtx3f0 (x y z : F32) : Statement (.vtx3f0 x y z) := fun _ _ => rfl
theorem vtx3f1 (x y z : F32) : Statement (.vtx3f1 x y z) := fun _ _ => rfl
theorem vtx3f2 (x y z : F32) : Statement (.vtx3f2 x y z) := fun _ _ => rfl
theorem vtx3f3 (x y z : F32) : Statement (.vtx3f3 x y z) := fun _ _ => rfl
theorem vtxN0 (h0 h1 : Word) (x y z nx ny nz : F32) : Statement (.vtxN0 h0 h1 x y z nx ny nz) := fun _ _ => rfl
theorem vtxN1 (h0 h1 : Word) (x y z nx ny nz : F32) : Statement (.vtxN1 h0 h1 x y z nx ny nz) := fun _ _ => rfl
theorem vtxN2 (h0 h1 : Word) (x y z nx ny nz : F32) : Statement (.vtxN2 h0 h1 x y z nx ny nz) := fun _ _ => rfl
theorem vtxN3 (h0 h1 : Word) (x y z nx ny nz : F32) : Statement (.vtxN3 h0 h1 x y z nx ny nz) := fun _ _ => rfl
theorem vtxN4 (h0 h1 : Word) (x y z nx ny nz : F32) : Statement (.vtxN4 h0 h1 x y z nx ny nz) := fun _ _ => rfl
theorem vtxN5 (h0 h1 : Word) (x y z nx ny nz : F32) : Statement (.vtxN5 h0 h1 x y z nx ny nz) := fun _ _ => rfl
theorem vtxN6 (h0 h1 : Word) (x y z nx ny nz : F32) : Statement (.vtxN6 h0 h1 x y z nx ny nz) := fun _ _ => rfl
theorem vtxN7 (h0 h1 : Word) (x y z nx ny nz : F32) : Statement (.vtxN7 h0 h1 x y z nx ny nz) := fun _ _ => rfl
theorem texCoord0 (uv0 uv1 uv2 : Word) : Statement (.texCoord0 uv0 uv1 uv2) := fun _ _ => rfl
theorem texCoord1 (uv0 uv1 uv2 : Word) : Statement (.texCoord1 uv0 uv1 uv2) := fun _ _ => rfl
theorem diag101 (extra : List Word) : Statement (.diag101 extra) := fun c h => by
  simp only [Instr.wf, Cfg.tailLength, Bool.and_eq_true, decide_eq_true_eq] at h
  exact h.1
theorem diag301 (extra : List Word) : Statement (.diag301 extra) := fun c h => by
  simp only [Instr.wf, Cfg.tailLength, Bool.and_eq_true, decide_eq_true_eq] at h
  exact h.1
theorem diag501 (extra : List Word) : Statement (.diag501 extra) := fun c h => by
  simp only [Instr.wf, Cfg.tailLength, Bool.and_eq_true, decide_eq_true_eq] at h
  exact h.1
theorem diag043 (extra : List Word) : Statement (.diag043 extra) := fun c h => by
  simp only [Instr.wf, Cfg.tailLength, Bool.and_eq_true, decide_eq_true_eq] at h
  exact h.1
theorem diag901 (extra : List Word) : Statement (.diag901 extra) := fun c h => by
  simp only [Instr.wf, Cfg.tailLength, Bool.and_eq_true, decide_eq_true_eq] at h
  exact h.1
theorem diag3A1 (extra : List Word) : Statement (.diag3A1 extra) := fun c h => by
  simp only [Instr.wf, Cfg.tailLength, Bool.and_eq_true, decide_eq_true_eq] at h
  exact h.1
theorem diag5A1 (extra : List Word) : Statement (.diag5A1 extra) := fun c h => by
  simp only [Instr.wf, Cfg.tailLength, Bool.and_eq_true, decide_eq_true_eq] at h
  exact h.1
theorem diag6D1 (extra : List Word) : Statement (.diag6D1 extra) := fun c h => by
  simp only [Instr.wf, Cfg.tailLength, Bool.and_eq_true, decide_eq_true_eq] at h
  exact h.1
theorem diag181 (extra : List Word) : Statement (.diag181 extra) := fun c h => by
  simp only [Instr.wf, Cfg.tailLength, Bool.and_eq_true, decide_eq_true_eq] at h
  exact h.1
theorem diag303 (extra : List Word) : Statement (.diag303 extra) := fun c h => by
  simp only [Instr.wf, Cfg.tailLength, Bool.and_eq_true, decide_eq_true_eq] at h
  exact h.1
theorem diag104 (extra : List Word) : Statement (.diag104 extra) := fun c h => by
  simp only [Instr.wf, Cfg.tailLength, Bool.and_eq_true, decide_eq_true_eq] at h
  exact h.1
theorem diag051 (extra : List Word) : Statement (.diag051 extra) := fun c h => by
  simp only [Instr.wf, Cfg.tailLength, Bool.and_eq_true, decide_eq_true_eq] at h
  exact h.1
theorem diag006 (extra : List Word) : Statement (.diag006 extra) := fun c h => by
  simp only [Instr.wf, Cfg.tailLength, Bool.and_eq_true, decide_eq_true_eq] at h
  exact h.1
theorem diag046 (extra : List Word) : Statement (.diag046 extra) := fun c h => by
  simp only [Instr.wf, Cfg.tailLength, Bool.and_eq_true, decide_eq_true_eq] at h
  exact h.1
theorem diag451 (extra : List Word) : Statement (.diag451 extra) := fun c h => by
  simp only [Instr.wf, Cfg.tailLength, Bool.and_eq_true, decide_eq_true_eq] at h
  exact h.1
theorem diag064 (extra : List Word) : Statement (.diag064 extra) := fun c h => by
  simp only [Instr.wf, Cfg.tailLength, Bool.and_eq_true, decide_eq_true_eq] at h
  exact h.1
theorem diag561 (extra : List Word) : Statement (.diag561 extra) := fun c h => by
  simp only [Instr.wf, Cfg.tailLength, Bool.and_eq_true, decide_eq_true_eq] at h
  exact h.1
theorem diagE88 (extra : List Word) : Statement (.diagE88 extra) := fun c h => by
  simp only [Instr.wf, Cfg.tailLength, Bool.and_eq_true, decide_eq_true_eq] at h
  exact h.1

end Sys2Proof.Laws.EncodeLength
end

