-- ==== Sys2Proof/Tests/Slice0.lean ====
section
/-! SUPPORT. Tests: every ill-formed term is refused; one word of every mnemonic, written out from R91 and EXCFG, decodes to
its instruction; the one-step vectors of 95_test_vectors.md section 3 (each test names its row); and, for every
obligation with hypotheses, a state that meets them. -/

namespace Sys2Proof.Machine.Tests

-- One theorem at a time: a thread for each would need more memory than the check allows.
set_option Elab.async false

/-! ## Helpers -/

/-- `S_boot(pc, sp0, sp1)` of 95_test_vectors.md. -/
def boot (pc sp0 sp1 : Word) : State :=
  { State.reset with
    pc := pc, sp := #v[sp0, sp1], running := true
    reg15 := [(0x40, 3), (0x44, pc), (0x48, sp0), (0x4C, sp1)] }

/-- `S_boot` at a pc, with the default stack pointers. -/
def bootAt (pc : Word) : State := boot pc 0x483FFFFC 0x4C3FFFFC

/-- `s` with words in command RAM from `a` on. -/
def put (a : Word) (ws : List Word) (s : State) : State := { s with cram := storeWords s.cfg s.cram a ws }

/-- `s` inside an `Exec(1)`, about to run the instruction `ws` placed at its pc. -/
def ready (ws : List Word) (s : State) : State := { put s.pc ws s with budget := some 1 }

/-- One field of a next state. -/
def field {β : Type} (o : Host.Outcome State Fault Refusal) (f : State → β) : Option β :=
  match o with
  | .next t => some (f t)
  | _ => none

/-- One field of the next state of a step. -/
def after {β : Type} (s : State) (f : State → β) : Option β := field (step s) f

/-- One field of the next state, after the instruction `ws` at the default pc. -/
def run {β : Type} (ws : List Word) (f : State → β) : Option β := after (ready ws (bootAt 0x48000000)) f

/-- `s` with one host operation to come. -/
def asks (op : HostOp) (s : State) : State := { s with inputs := [op] }

/-- A full ring: the positions (1,2,1), (0.5,1.5,0), (0,1,0) of vector VX-15, cursor 0. -/
def fullRing (s : State) : State :=
  { s with ring := #v[some ⟨0x3F800000, 0x40000000, 0x3F800000⟩, some ⟨0x3F000000, 0x3FC00000, 0⟩, some ⟨0, 0x3F800000, 0⟩] }

/-! ## Well-formedness: an ill-formed term for each check -/

theorem test_wf_cfg_window_multiple : Cfg.windowWf ({ Config.excfg with wcBase := 0x4C100000 } : Cfg) = false := by decide +kernel
theorem test_wf_cfg_window_distinct : Cfg.windowWf ({ Config.excfg with wcBase := 0x48000000 } : Cfg) = false := by decide +kernel
theorem test_wf_cfg_opmap_injective : Cfg.opmapWf ({ Config.excfg with opmap := Config.excfg.opmap.set 1 0x101 } : Cfg) = false := by decide +kernel
theorem test_wf_cfg_reserved_opcode_bit : Cfg.reservedWf ({ Config.excfg with rsv := Config.excfg.rsv.set 1 (Config.firstWordMask 1) } : Cfg) = false := by decide +kernel
theorem test_wf_cfg_field_order : Cfg.fieldsWf ({ Config.excfg with field := { Config.exFields with vpRecallN := ⟨0, 12, 14⟩ } } : Cfg) = false := by decide +kernel
theorem test_wf_cfg_field_bounds : Cfg.fieldsWf ({ Config.excfg with field := { Config.exFields with vpRecallN := ⟨0, 32, 30⟩ } } : Cfg) = false := by decide +kernel
theorem test_wf_cfg_field_in_opcode : Cfg.fieldsWf ({ Config.excfg with field := { Config.exFields with vpRecallN := ⟨0, 13, 11⟩ } } : Cfg) = false := by decide +kernel
theorem test_wf_cfg_field_word : Cfg.fieldsWf ({ Config.excfg with field := { Config.exFields with clearA := [⟨0, 19, 12⟩] } } : Cfg) = false := by decide +kernel
theorem test_wf_cfg_field_word_vtxn : Cfg.fieldsWf ({ Config.excfg with field := { Config.exFields with vtxN := Config.exFields.vtxN.set 0 ⟨⟨0, 19, 12⟩, ⟨1, 31, 16⟩⟩ }, rsv := Config.excfg.rsv.set 36 #v[0, 0, 0, 0, 0, 0, 0, 0] } : Cfg) = false := by decide +kernel
theorem test_wf_cfg_field_reserved : Cfg.fieldsWf ({ Config.excfg with field := { Config.exFields with mtxCommit := ⟨0, 15, 13⟩ } } : Cfg) = false := by decide +kernel
theorem test_wf_cfg_field_overlap : Cfg.fieldsWf ({ Config.excfg with field := { Config.exFields with vpRecallP := ⟨0, 14, 13⟩ } } : Cfg) = false := by decide +kernel
theorem test_wf_cfg_field_width : Cfg.fieldsWf ({ Config.excfg with field := { Config.exFields with vpCommitN := ⟨0, 13, 12⟩ } } : Cfg) = false := by decide +kernel
theorem test_wf_cfg_clear_width : Cfg.fieldsWf ({ Config.excfg with field := { Config.exFields with clearB := [⟨1, 3, 0⟩] } } : Cfg) = false := by decide +kernel
theorem test_wf_cfg_offset_alignment : Cfg.offsetsWf ({ Config.excfg with offStart := 0x41 } : Cfg) = false := by decide +kernel
theorem test_wf_cfg_offset_range : Cfg.offsetsWf ({ Config.excfg with offStart := 0xA0 } : Cfg) = false := by decide +kernel
theorem test_wf_cfg_offset_on_status : Cfg.offsetsWf ({ Config.excfg with offStart := 0x88 } : Cfg) = false := by decide +kernel
theorem test_wf_cfg_offset_distinct : Cfg.offsetsWf ({ Config.excfg with offStart := 0x44 } : Cfg) = false := by decide +kernel
theorem test_wf_cfg_segaId_alignment : Cfg.offsetsWf ({ Config.excfg with offSegaId := 0xFE } : Cfg) = false := by decide +kernel
theorem test_wf_cfg_block_size : Cfg.blockSizesWf ({ Config.excfg with blockSize1A := 0x200 } : Cfg) = false := by decide +kernel
theorem test_wf_cfg_block_size_power : Cfg.blockSizesWf ({ Config.excfg with blockSize15 := 0x180 } : Cfg) = false := by decide +kernel
theorem test_wf_excfg : Config.excfg.wf = true := by decide +kernel
theorem test_wf_attr : (Instr.texSet0 0x80000).wf Config.excfg = false := by decide +kernel
theorem test_wf_length : (Instr.vpSet3 0 [1]).wf Config.excfg = false := by decide +kernel
theorem test_wf_diag_length : (Instr.diag101 [0]).wf Config.excfg = false := by decide +kernel
theorem test_wf_fits : (Instr.colorCommit 16 0).wf Config.excfg = false := by decide +kernel
theorem test_wf_tail :
    (Instr.clearA 1).wf { Config.excfg with rsv := Config.excfg.rsv.set 6 #v[0, 1, 0, 0, 0, 0, 0, 0] } = false := by
  decide +kernel

/-! ## Decoding: one word of every mnemonic -/

theorem test_decode_nop : decodeTableWord 32 0x00000000 = some .nop := by decide +kernel
theorem test_decode_jump : decodeTableWord 64 0x1200004000000F01 = some (.jump 0x12000040) := by decide +kernel
theorem test_decode_call : decodeTableWord 64 0x1300004000000F02 = some (.call 0x13000040) := by decide +kernel
theorem test_decode_ret : decodeTableWord 32 0x00000F03 = some .ret := by decide +kernel
theorem test_decode_kill : decodeTableWord 32 0x00000F04 = some .kill := by decide +kernel
theorem test_decode_sync : decodeTableWord 32 0x000E9F05 = some (.sync 1 2 2 3) := by decide +kernel
theorem test_decode_clearA : decodeTableWord 64 0xFFFFFFFF00000F06 = some (.clearA 0xFFFFFFFF) := by decide +kernel
theorem test_decode_clearB : decodeTableWord 64 0x1234567800000F07 = some (.clearB 0x12345678) := by decide +kernel
theorem test_decode_vpSet0 : decodeTableWord 64 0x3F80000000000F10 = some (.vpSet0 0 [0x3F800000]) := by decide +kernel
theorem test_decode_vpSet1 : decodeTableWord 64 0x3F80000100000F11 = some (.vpSet1 0 [0x3F800001]) := by decide +kernel
theorem test_decode_vpSet2 : decodeTableWord 64 0x3F80000200000F12 = some (.vpSet2 0 [0x3F800002]) := by decide +kernel
theorem test_decode_vpSet3 : decodeTableWord 128 0x33333333222222221111111100000F13
    = some (.vpSet3 0 [0x11111111, 0x22222222, 0x33333333]) := by
  decide +kernel
theorem test_decode_vpSet4 : decodeTableWord 128 0x33333333222222221111111100000F14
    = some (.vpSet4 0 [0x11111111, 0x22222222, 0x33333333]) := by
  decide +kernel
theorem test_decode_vpSet5 : decodeTableWord 128 0x33333333222222221111111100000F15
    = some (.vpSet5 0 [0x11111111, 0x22222222, 0x33333333]) := by
  decide +kernel
theorem test_decode_vpCommit : decodeTableWord 32 0x00003F16 = some (.vpCommit 3) := by decide +kernel
theorem test_decode_vpRecall : decodeTableWord 32 0x0007FF17 = some (.vpRecall 7 3 3) := by decide +kernel
theorem test_decode_colorSet0 : decodeTableWord 64 0x1234567000000F20 = some (.colorSet0 0 0x12345670) := by decide +kernel
theorem test_decode_colorSet2 : decodeTableWord 64 0x1234567200000F22 = some (.colorSet2 0 0x12345672) := by decide +kernel
theorem test_decode_colorSet4 : decodeTableWord 64 0x1234567400000F24 = some (.colorSet4 0 0x12345674) := by decide +kernel
theorem test_decode_colorSet6 : decodeTableWord 64 0x1234567600000F26 = some (.colorSet6 0 0x12345676) := by decide +kernel
theorem test_decode_colorCommit : decodeTableWord 32 0x0002FF28 = some (.colorCommit 15 2) := by decide +kernel
theorem test_decode_colorRecall : decodeTableWord 32 0x00031F29 = some (.colorRecall 1 3) := by decide +kernel
theorem test_decode_texSet0 : decodeTableWord 32 0x00000F30 = some (.texSet0 0) := by decide +kernel
theorem test_decode_texSet2 : decodeTableWord 32 0x00000F32 = some (.texSet2 0) := by decide +kernel
theorem test_decode_texSet4 : decodeTableWord 32 0x00000F34 = some (.texSet4 0) := by decide +kernel
theorem test_decode_texCommit : decodeTableWord 32 0x00000F38 = some (.texCommit 0) := by decide +kernel
theorem test_decode_texRecall : decodeTableWord 32 0x00000F39 = some (.texRecall 0) := by decide +kernel
theorem test_decode_mtxSet0 : decodeTableWord 128 0x80000000000000003F80000000080F40
    = some (.mtxSet0 0 0 2 0x3F800000 0 0x80000000) := by
  decide +kernel
theorem test_decode_mtxSet1 : decodeTableWord 128 0x00000003000000020000000100022F41
    = some (.mtxSet1 2 2 0 1 2 3) := by
  decide +kernel
theorem test_decode_mtxSet2 : decodeTableWord 128 0x41F0000041A000004120000000081F42
    = some (.mtxSet2 1 0 2 0x41200000 0x41A00000 0x41F00000) := by
  decide +kernel
theorem test_decode_mtxSet3 : decodeTableWord 128 0x000000060000000500000004000F7F43
    = some (.mtxSet3 7 3 3 4 5 6) := by
  decide +kernel
theorem test_decode_mtxCommit : decodeTableWord 32 0x00005F44 = some (.mtxCommit 5) := by decide +kernel
theorem test_decode_vtx3f0 : decodeTableWord 128 0x3F80000043F000004420000000000F50
    = some (.vtx3f0 0x44200000 0x43F00000 0x3F800000) := by
  decide +kernel
theorem test_decode_vtx3f1 : decodeTableWord 128 0x3F80000043F000004420000000000F51
    = some (.vtx3f1 0x44200000 0x43F00000 0x3F800000) := by
  decide +kernel
theorem test_decode_vtx3f2 : decodeTableWord 128 0x3F80000043F000004420000000000F52
    = some (.vtx3f2 0x44200000 0x43F00000 0x3F800000) := by
  decide +kernel
theorem test_decode_vtx3f3 : decodeTableWord 128 0x3F80000043F000004420000000000F53
    = some (.vtx3f3 0x44200000 0x43F00000 0x3F800000) := by
  decide +kernel
theorem test_decode_vtxN0 : decodeTableWord 256 0x000000060000000500000004000000030000000200000001BEEF123000000F60
    = some (.vtxN0 0x1230 0xBEEF 1 2 3 4 5 6) := by
  decide +kernel
theorem test_decode_vtxN1 : decodeTableWord 256 0x000000060000000500000004000000030000000200000001BEEF123100000F61
    = some (.vtxN1 0x1231 0xBEEF 1 2 3 4 5 6) := by
  decide +kernel
theorem test_decode_vtxN2 : decodeTableWord 256 0x000000060000000500000004000000030000000200000001BEEF123200000F62
    = some (.vtxN2 0x1232 0xBEEF 1 2 3 4 5 6) := by
  decide +kernel
theorem test_decode_vtxN3 : decodeTableWord 256 0x000000060000000500000004000000030000000200000001BEEF123300000F63
    = some (.vtxN3 0x1233 0xBEEF 1 2 3 4 5 6) := by
  decide +kernel
theorem test_decode_vtxN4 : decodeTableWord 256 0x000000060000000500000004000000030000000200000001BEEF123400000F64
    = some (.vtxN4 0x1234 0xBEEF 1 2 3 4 5 6) := by
  decide +kernel
theorem test_decode_vtxN5 : decodeTableWord 256 0x000000060000000500000004000000030000000200000001BEEF123500000F65
    = some (.vtxN5 0x1235 0xBEEF 1 2 3 4 5 6) := by
  decide +kernel
theorem test_decode_vtxN6 : decodeTableWord 256 0x000000060000000500000004000000030000000200000001BEEF123600000F66
    = some (.vtxN6 0x1236 0xBEEF 1 2 3 4 5 6) := by
  decide +kernel
theorem test_decode_vtxN7 : decodeTableWord 256 0x000000060000000500000004000000030000000200000001BEEF123700000F67
    = some (.vtxN7 0x1237 0xBEEF 1 2 3 4 5 6) := by
  decide +kernel
theorem test_decode_texCoord0 : decodeTableWord 128 0x01000100000000000200010000000F70
    = some (.texCoord0 0x02000100 0 0x01000100) := by
  decide +kernel
theorem test_decode_texCoord1 : decodeTableWord 128 0x01000100000000000200010000000F71
    = some (.texCoord1 0x02000100 0 0x01000100) := by
  decide +kernel
theorem test_decode_diag101 : decodeTableWord 32 0x00000101 = some (.diag101 []) := by decide +kernel
theorem test_decode_diag301 : decodeTableWord 32 0x00000301 = some (.diag301 []) := by decide +kernel
theorem test_decode_diag501 : decodeTableWord 32 0x00000501 = some (.diag501 []) := by decide +kernel
theorem test_decode_diag043 : decodeTableWord 32 0x00000043 = some (.diag043 []) := by decide +kernel
theorem test_decode_diag901 : decodeTableWord 32 0x00000901 = some (.diag901 []) := by decide +kernel
theorem test_decode_diag3A1 : decodeTableWord 32 0x000003A1 = some (.diag3A1 []) := by decide +kernel
theorem test_decode_diag5A1 : decodeTableWord 32 0x000005A1 = some (.diag5A1 []) := by decide +kernel
theorem test_decode_diag6D1 : decodeTableWord 32 0x000006D1 = some (.diag6D1 []) := by decide +kernel
theorem test_decode_diag181 : decodeTableWord 32 0x00000181 = some (.diag181 []) := by decide +kernel
theorem test_decode_diag303 : decodeTableWord 64 0xDEADBEEF00000303 = some (.diag303 [0xDEADBEEF]) := by decide +kernel
theorem test_decode_diag104 : decodeTableWord 32 0x00000104 = some (.diag104 []) := by decide +kernel
theorem test_decode_diag051 : decodeTableWord 32 0x00000051 = some (.diag051 []) := by decide +kernel
theorem test_decode_diag006 : decodeTableWord 32 0x00000006 = some (.diag006 []) := by decide +kernel
theorem test_decode_diag046 : decodeTableWord 32 0x00000046 = some (.diag046 []) := by decide +kernel
theorem test_decode_diag451 : decodeTableWord 32 0x00000451 = some (.diag451 []) := by decide +kernel
theorem test_decode_diag064 : decodeTableWord 32 0x00000064 = some (.diag064 []) := by decide +kernel
theorem test_decode_diag561 : decodeTableWord 32 0x00000561 = some (.diag561 []) := by decide +kernel
theorem test_decode_diagE88 : decodeTableWord 128 0x00000003000000020000000100000E88
    = some (.diagE88 [1, 2, 3]) := by
  decide +kernel

/-! Reserved bits and opcodes outside the table do not decode (CTL-2, CTL-18, CTL-21, W1, VP-10, CT-3, CT-5, CT-8, MX-4, MX-7,
DG-5, DG-6, DEC-1 to DEC-3). -/

theorem test_decode_reserved_nop : decodeTableWord 256 0x00001000 = none := by decide +kernel
theorem test_decode_reserved_sync : decodeTableWord 256 0x00100F05 = none := by decide +kernel
theorem test_decode_reserved_clearA : decodeTableWord 256 0x80000F06 = none := by decide +kernel
theorem test_decode_reserved_vpCommit : decodeTableWord 256 0x0000BF16 = none := by decide +kernel
theorem test_decode_reserved_vpRecall : decodeTableWord 256 0x00080F17 = none := by decide +kernel
theorem test_decode_reserved_colorSet0 : decodeTableWord 256 0x00001F20 = none := by decide +kernel
theorem test_decode_reserved_colorCommit : decodeTableWord 256 0x00040F28 = none := by decide +kernel
theorem test_decode_reserved_texSet2 : decodeTableWord 256 0x80000F32 = none := by decide +kernel
theorem test_decode_reserved_mtxSet0 : decodeTableWord 256 0x00008F40 = none := by decide +kernel
theorem test_decode_reserved_mtxCommit : decodeTableWord 256 0x00008F44 = none := by decide +kernel
theorem test_decode_reserved_diag101 : decodeTableWord 256 0x00001101 = none := by decide +kernel
theorem test_decode_unknown_FFF : decodeTableWord 256 0x00000FFF = none := by decide +kernel
theorem test_decode_unknown_FFFFFFFF : decodeTableWord 256 0xFFFFFFFF = none := by decide +kernel
theorem test_decode_unknown_1 : decodeTableWord 256 0x00000001 = none := by decide +kernel
theorem test_decode_unknown_102 : decodeTableWord 256 0x00000102 = none := by decide +kernel
theorem test_encode_sync : Config.excfg.encode (.sync 1 2 2 3) = [0x000E9F05] := by decide +kernel

/-! ## One step: the vectors of 95_test_vectors.md section 3 -/

/-- CTL-1. -/
theorem test_nop : run [0] State.pc = some 0x48000004 := by decide +kernel
/-- CTL-2. -/
theorem test_reserved :
    run [0x00001000] State.fault
      = some (some (.reservedBits .NOP 0 0x00001000 0x48000000)) := by decide +kernel
/-- CTL-4. -/
theorem test_jump_wraps : run [0x00000F01, 0xD2000040] State.pc = some 0x48000100 := by decide +kernel
/-- CTL-5. -/
theorem test_jump_outside :
    run [0x00000F01, 0x13000040] State.fault
      = some (some (.targetOutOfWindow .JUMP 0x4C000100 0x48000000)) := by decide +kernel
/-- CTL-7. -/
theorem test_call :
    after (ready [0x00000F02, 0x13000040] (bootAt 0x48000010)) (fun t => (t.pc, t.sp, memRead t 0x483FFFFC))
      = some (0x4C000100, #v[0x483FFFF8, 0x4C3FFFFC], 0x48000010) := by decide +kernel
/-- CTL-9. -/
theorem test_call_outside :
    run [0x00000F02, 0x12000040] (fun t => (t.fault, memRead t 0x483FFFFC))
      = some (some (.targetOutOfWindow .CALL 0x48000100 0x48000000), 0x48000000) := by decide +kernel
/-- CTL-11. -/
theorem test_ret :
    after (ready [0x00000F03] (put 0x483FFFFC [0x48000000] (boot 0x4C000104 0x483FFFF8 0x4C3FFFFC))) (fun t => (t.pc, t.sp))
      = some (0x48000008, #v[0x483FFFFC, 0x4C3FFFFC]) := by decide +kernel
/-- CTL-13. -/
theorem test_ret_misaligned :
    after (ready [0x00000F03] (put 0x483FFFFC [0x48000001] (boot 0x4C000104 0x483FFFF8 0x4C3FFFFC))) State.fault
      = some (some (.pcOutOfWindow 0x48000009)) := by decide +kernel
/-- CTL-15. -/
theorem test_kill :
    run [0x00000F04] (fun t => (t.running, t.mainStatus, t.cause 0, t.reg .b15 0x40))
      = some (false, 0x82, 1, 2) := by decide +kernel
/-- CTL-16. -/
theorem test_kill_at_the_end :
    after (ready [0x00000F04] (bootAt 0x483FFFFC)) (fun t => (t.fault, t.mainStatus))
      = some (some (.pcOutOfWindow 0x48400000), 0) := by decide +kernel
/-- CTL-17. -/
theorem test_sync : run [0x000E9F05] State.pc = some 0x48000004 := by decide +kernel
/-- R125 with a combination that is not legal. -/
theorem test_sync_illegal :
    after { ready [0x000E9F05] (bootAt 0x48000000) with cfg := { Config.excfg with syncIllegal := [0xE9] } } State.fault
      = some (some (.badField .SYNC .s0123 0xE9 0x48000000)) := by decide +kernel
/-- CTL-19. -/
theorem test_clearA : run [0x00000F06, 0xFFFFFFFF] State.pc = some 0x48000008 := by decide +kernel
/-- CTL-20. -/
theorem test_clearB : after (ready [0x00000F07, 0] (bootAt 0x4800FFF8)) State.pc = some 0x48010000 := by decide +kernel
/-- CTL-10. -/
theorem test_call_wraps_stack :
    after (ready [0x00000F02, 0x13000040] (boot 0x48000010 0x48000000 0x4C3FFFFC)) State.fault
      = some (some (.spOutOfWindow 0 0x48FFFFFC)) := by decide +kernel
/-- VP-1. -/
theorem test_vpSet0 :
    run [0x00000F10, 0x3F800000] (fun t => (t.vpScratch.get 0, t.pc))
      = some (some [0x00000F10, 0x3F800000], 0x48000008) := by decide +kernel
/-- R145. -/
theorem test_vpSet1 :
    run [0x00000F11, 0x3F800000] (fun t => (t.vpScratch.get 1, t.pc))
      = some (some [0x00000F11, 0x3F800000], 0x48000008) := by decide +kernel
/-- R146. -/
theorem test_vpSet2 :
    run [0x00000F12, 0x3F800000] (fun t => (t.vpScratch.get 2, t.pc))
      = some (some [0x00000F12, 0x3F800000], 0x48000008) := by decide +kernel
/-- VP-2. -/
theorem test_vpSet3 :
    run [0x00000F13, 1, 2, 3] (fun t => (t.vpScratch.get 3, t.pc))
      = some (some [0x00000F13, 1, 2, 3], 0x48000010) := by decide +kernel
/-- R148. -/
theorem test_vpSet4 :
    run [0x00000F14, 1, 2, 3] (fun t => (t.vpScratch.get 4, t.pc))
      = some (some [0x00000F14, 1, 2, 3], 0x48000010) := by decide +kernel
/-- R149. -/
theorem test_vpSet5 :
    run [0x00000F15, 1, 2, 3] (fun t => (t.vpScratch.get 5, t.pc))
      = some (some [0x00000F15, 1, 2, 3], 0x48000010) := by decide +kernel
/-- VP-5. -/
theorem test_vpCommit :
    run [0x00007F16] (fun t => (Table.get t.viewports 7, t.pc))
      = some (⟨true, some emptyViewport⟩, 0x48000004) := by decide +kernel
/-- VP-6. -/
theorem test_vpCommit_zero :
    run [0x00000F16] (fun t => (t.fault, t.viewports.length))
      = some (some (.badField .VP_COMMIT .n 0 0x48000000), 0) := by decide +kernel
/-- VP-7. -/
theorem test_vpCommit_reserved_first :
    run [0x00100F16] State.fault
      = some (some (.reservedBits .VP_COMMIT 0 0x00100F16 0x48000000)) := by decide +kernel
/-- VP-9. -/
theorem test_vpRecall : run [0x0007FF17] State.pc = some 0x48000004 := by decide +kernel
/-- CT-1. -/
theorem test_colorSet0 :
    run [0x00000F20, 0xFFFFFFFF] (fun t => (t.pc, t.matScratch))
      = some (0x48000008, emptyMaterial) := by decide +kernel
/-- R162. -/
theorem test_colorSet2 :
    run [0x00000F22, 0xFFFFFFFF] (fun t => (t.pc, t.matScratch))
      = some (0x48000008, emptyMaterial) := by decide +kernel
/-- R163. -/
theorem test_colorSet4 :
    run [0x00000F24, 0xFFFFFFFF] (fun t => (t.pc, t.matScratch))
      = some (0x48000008, emptyMaterial) := by decide +kernel
/-- CT-2. -/
theorem test_colorSet6 :
    run [0x00000F26, 0xFFFFFFFF] (fun t => (t.pc, t.matScratch))
      = some (0x48000008, emptyMaterial) := by decide +kernel
/-- CT-4. -/
theorem test_colorCommit : run [0x0003FF28] (fun t => (t.pc, t.materials)) = some (0x48000004, []) := by decide +kernel
/-- CT-6. -/
theorem test_colorRecall : run [0x00001F29] State.pc = some 0x48000004 := by decide +kernel
/-- CT-7. -/
theorem test_texSet0 :
    run [0x00000F30] (fun t => (t.pc, t.thScratch, t.texheads))
      = some (0x48000004, emptyTexhead, []) := by decide +kernel
/-- CT-7. -/
theorem test_texSet2 :
    run [0x00000F32] (fun t => (t.pc, t.thScratch, t.texheads))
      = some (0x48000004, emptyTexhead, []) := by decide +kernel
/-- CT-7. -/
theorem test_texSet4 :
    run [0x00000F34] (fun t => (t.pc, t.thScratch, t.texheads))
      = some (0x48000004, emptyTexhead, []) := by decide +kernel
/-- CT-7. -/
theorem test_texCommit :
    run [0x00000F38] (fun t => (t.pc, t.thScratch, t.texheads))
      = some (0x48000004, emptyTexhead, []) := by decide +kernel
/-- CT-7. -/
theorem test_texRecall :
    run [0x00000F39] (fun t => (t.pc, t.thScratch, t.texheads))
      = some (0x48000004, emptyTexhead, []) := by decide +kernel
/-- MX-1. -/
theorem test_mtxSet0 :
    run [0x00080F40, 0x3F800000, 0, 0x80000000] (fun t => (t.mvScratch.get 2, t.pc))
      = some (some ⟨0x3F800000, 0, 0x80000000⟩, 0x48000010) := by decide +kernel
/-- R182: sub-index 0, whatever index and mid are. -/
theorem test_mtxSet1 : run [0x00021F41, 1, 2, 3] (fun t => t.mvScratch.get 0) = some (some ⟨1, 2, 3⟩) := by decide +kernel
/-- MX-2. -/
theorem test_mtxSet2 :
    run [0x00081F42, 0x41200000, 0x41A00000, 0x41F00000] (fun t => t.mvScratch.get 2)
      = some (some ⟨0x41200000, 0x41A00000, 0x41F00000⟩) := by decide +kernel
/-- MX-3. -/
theorem test_mtxSet3 : run [0x000F7F43, 0, 0, 0] (fun t => t.mvScratch.get 3) = some (some ⟨0, 0, 0⟩) := by decide +kernel
/-- MX-6. -/
theorem test_mtxCommit : run [0x00005F44] (fun t => (t.pc, t.modelviews.length)) = some (0x48000004, 0) := by decide +kernel
/-- VX-1. -/
theorem test_vtx3f0 :
    run [0x00000F50, 0x44200000, 0x43F00000, 0x3F800000] (fun t => (t.ring.get 0, t.cursor))
      = some (some ⟨0x3F800000, 0x40000000, 0x3F800000⟩, 1) := by decide +kernel
/-- VX-2. -/
theorem test_vtx3f1 :
    run [0x00000F51, 0x43A00000, 0x43700000, 0] (fun t => (t.ring.get 0, t.cursor))
      = some (some ⟨0x3F000000, 0x3FC00000, 0⟩, 1) := by decide +kernel
/-- VX-3. -/
theorem test_vtx3f2 :
    run [0x00000F52, 0, 0, 0] (fun t => (t.ring.get 0, t.cursor))
      = some (some ⟨0, 0x3F800000, 0⟩, 1) := by decide +kernel
/-- VX-4. -/
theorem test_vtx3f3 :
    run [0x00000F53, 0xC4200000, 0xC3F00000, 0x40000000] (fun t => (t.ring.get 0, t.cursor))
      = some (some ⟨0xBF800000, 0, 0x40000000⟩, 1) := by decide +kernel
/-- VX-5. -/
theorem test_vtx3f0_two_roundings :
    run [0x00000F50, 0x42C80000, 0x42C80000, 0] (fun t => (t.ring.get 0, t.cursor))
      = some (some ⟨0x3E200000, 0x3F9AAAAB, 0⟩, 1) := by decide +kernel
/-- VX-6, under another opcode of the four. -/
theorem test_vtx3f1_one :
    run [0x00000F51, 0x3F800000, 0x3F800000, 0] (fun t => (t.ring.get 0, t.cursor))
      = some (some ⟨0x3ACCCCCD, 0x3F804444, 0⟩, 1) := by decide +kernel
/-- VX-7, under another opcode of the four. -/
theorem test_vtx3f2_large :
    run [0x00000F52, 0x7F7FFFFF, 0x7F800000, 0] (fun t => (t.ring.get 0, t.cursor))
      = some (some ⟨0x7ACCCCCC, 0x7F800000, 0⟩, 1) := by decide +kernel
/-- VX-8, under another opcode of the four. -/
theorem test_vtx3f3_small :
    run [0x00000F53, 1, 0x80000000, 0] (fun t => (t.ring.get 0, t.cursor))
      = some (some ⟨0, 0x3F800000, 0⟩, 1) := by decide +kernel
/-- VX-9 and VX-10: a signed zero and a NaN in z are kept, and a NaN in x becomes some NaN. -/
theorem test_normalise_special :
    normalise Config.excfg 0 ⟨0x80000000, 0xC3F00000, 0x7FC00000⟩ = ⟨0x80000000, 0, 0x7FC00000⟩
      ∧ fdiv32 Config.excfg 0x7FC00000 f32_640 = none := by decide +kernel
/-- VX-12. -/
theorem test_vtxN0 :
    run [0x00000F60, 0xFFFFFFFF, 0x44200000, 0x43F00000, 0x3F800000, 0, 0, 0x3F800000] (fun t => (t.pc, t.ring, t.cursor))
      = some (0x48000020, emptyRing, 0) := by decide +kernel
/-- R204. -/
theorem test_vtxN1 :
    run [0x00000F61, 0xFFFFFFFF, 0x44200000, 0x43F00000, 0x3F800000, 0, 0, 0x3F800000] (fun t => (t.pc, t.ring, t.cursor))
      = some (0x48000020, emptyRing, 0) := by decide +kernel
/-- R205. -/
theorem test_vtxN2 :
    run [0x00000F62, 0xFFFFFFFF, 0x44200000, 0x43F00000, 0x3F800000, 0, 0, 0x3F800000] (fun t => (t.pc, t.ring, t.cursor))
      = some (0x48000020, emptyRing, 0) := by decide +kernel
/-- R206. -/
theorem test_vtxN3 :
    run [0x00000F63, 0xFFFFFFFF, 0x44200000, 0x43F00000, 0x3F800000, 0, 0, 0x3F800000] (fun t => (t.pc, t.ring, t.cursor))
      = some (0x48000020, emptyRing, 0) := by decide +kernel
/-- R207. -/
theorem test_vtxN4 :
    run [0x00000F64, 0xFFFFFFFF, 0x44200000, 0x43F00000, 0x3F800000, 0, 0, 0x3F800000] (fun t => (t.pc, t.ring, t.cursor))
      = some (0x48000020, emptyRing, 0) := by decide +kernel
/-- R208. -/
theorem test_vtxN5 :
    run [0x00000F65, 0xFFFFFFFF, 0x44200000, 0x43F00000, 0x3F800000, 0, 0, 0x3F800000] (fun t => (t.pc, t.ring, t.cursor))
      = some (0x48000020, emptyRing, 0) := by decide +kernel
/-- R209. -/
theorem test_vtxN6 :
    run [0x00000F66, 0xFFFFFFFF, 0x44200000, 0x43F00000, 0x3F800000, 0, 0, 0x3F800000] (fun t => (t.pc, t.ring, t.cursor))
      = some (0x48000020, emptyRing, 0) := by decide +kernel
/-- R210. -/
theorem test_vtxN7 :
    run [0x00000F67, 0xFFFFFFFF, 0x44200000, 0x43F00000, 0x3F800000, 0, 0, 0x3F800000] (fun t => (t.pc, t.ring, t.cursor))
      = some (0x48000020, emptyRing, 0) := by decide +kernel
/-- VX-13. -/
theorem test_vtxN7_at_the_end :
    after (ready [0x00000F67, 0, 0, 0, 0, 0, 0, 0] (bootAt 0x483FFFE0)) State.fault
      = some (some (.pcOutOfWindow 0x48400000)) := by decide +kernel
/-- VX-14. -/
theorem test_fetch_outside :
    after (ready [0x00000F50, 0] (bootAt 0x483FFFF8)) State.fault
      = some (some (.fetchOutOfWindow 0x483FFFF8 .VTX3F_0)) := by decide +kernel
/-- VX-15. -/
theorem test_texCoord0 :
    after (ready [0x00000F70, 0x02000100, 0, 0x01000100] (fullRing (bootAt 0x48000000))) State.triOut
      = some [⟨⟨⟨0, 0x3F800000, 0⟩, ⟨0x3F800000, 0x40000000⟩⟩, ⟨⟨0x3F000000, 0x3FC00000, 0⟩, ⟨0, 0⟩⟩,
          ⟨⟨0x3F800000, 0x40000000, 0x3F800000⟩, ⟨0x3F800000, 0x3F800000⟩⟩⟩] := by decide +kernel
/-- VX-16. -/
theorem test_texCoord1 :
    after (ready [0x00000F71, 0xFFFFFFFF, 0x00010001, 0] (fullRing (bootAt 0x48000000))) (fun t => t.triOut.map fun x => (x.v0.uv, x.v1.uv, x.v2.uv))
      = some [(⟨0x437FFF00, 0x437FFF00⟩, ⟨0x3B800000, 0x3B800000⟩, ⟨0, 0⟩)] := by decide +kernel
/-- VX-17. -/
theorem test_texCoord0_empty :
    run [0x00000F70, 0, 0, 0] State.fault
      = some (some (.emptyRingSlot 2 0x48000000)) := by decide +kernel
/-- VX-18. -/
theorem test_texCoord1_two_appends :
    after (ready [0x00000F71, 0, 0, 0] { bootAt 0x48000000 with ring := #v[some ⟨0, 0, 0⟩, some ⟨0, 0, 0⟩, none], cursor := 2 })
      State.fault
      = some (some (.emptyRingSlot 2 0x48000000)) := by decide +kernel
/-- DG-1. -/
theorem test_diag101 : run [0x00000101] State.pc = some 0x48000004 := by decide +kernel
/-- DG-4. -/
theorem test_diag301 : run [0x00000301] State.pc = some 0x48000004 := by decide +kernel
/-- DG-4. -/
theorem test_diag501 : run [0x00000501] State.pc = some 0x48000004 := by decide +kernel
/-- DG-4. -/
theorem test_diag043 : run [0x00000043] State.pc = some 0x48000004 := by decide +kernel
/-- DG-4. -/
theorem test_diag901 : run [0x00000901] State.pc = some 0x48000004 := by decide +kernel
/-- DG-4. -/
theorem test_diag3A1 : run [0x000003A1] State.pc = some 0x48000004 := by decide +kernel
/-- DG-4. -/
theorem test_diag5A1 : run [0x000005A1] State.pc = some 0x48000004 := by decide +kernel
/-- DG-4. -/
theorem test_diag6D1 : run [0x000006D1] State.pc = some 0x48000004 := by decide +kernel
/-- DG-4. -/
theorem test_diag181 : run [0x00000181] State.pc = some 0x48000004 := by decide +kernel
/-- DG-2. -/
theorem test_diag303 : run [0x00000303, 0xDEADBEEF] State.pc = some 0x48000008 := by decide +kernel
/-- DG-4. -/
theorem test_diag104 : run [0x00000104] State.pc = some 0x48000004 := by decide +kernel
/-- DG-4. -/
theorem test_diag051 : run [0x00000051] State.pc = some 0x48000004 := by decide +kernel
/-- DG-4. -/
theorem test_diag006 : run [6] State.pc = some 0x48000004 := by decide +kernel
/-- DG-4. -/
theorem test_diag046 : run [0x00000046] State.pc = some 0x48000004 := by decide +kernel
/-- DG-4. -/
theorem test_diag451 : run [0x00000451] State.pc = some 0x48000004 := by decide +kernel
/-- DG-4. -/
theorem test_diag064 : run [0x00000064] State.pc = some 0x48000004 := by decide +kernel
/-- DG-4. -/
theorem test_diag561 : run [0x00000561] State.pc = some 0x48000004 := by decide +kernel
/-- DG-3. -/
theorem test_diagE88 : run [0x00000E88, 1, 2, 3] State.pc = some 0x48000010 := by decide +kernel
/-- DEC-1. -/
theorem test_unknown : run [0x00000FFF] State.fault = some (some (.unknownOpcode 0x48000000 0x00000FFF)) := by decide +kernel
/-- DEC-2. -/
theorem test_unknown_before_reserved :
    run [0xFFFFFFFF] State.fault
      = some (some (.unknownOpcode 0x48000000 0xFFFFFFFF)) := by decide +kernel
/-- DEC-4. -/
theorem test_call_fetch_outside :
    after (ready [0x00000F02] (bootAt 0x483FFFFC)) (fun t => (t.fault, t.sp.get 0))
      = some (some (.fetchOutOfWindow 0x483FFFFC .CALL), 0x483FFFFC) := by decide +kernel

/-! ## Host operations: the vectors of sections 3.7 to 3.10 -/

/-- RF-1. -/
theorem test_board_id :
    after (asks (.regRead 0x18000000 4) (State.reset)) State.results
      = some [.value 0x17C711DB] := by decide +kernel
/-- RF-4. -/
theorem test_invalid_width :
    after (asks (.regRead 0x15000044 2) (State.reset)) State.results
      = some [.invalidAccess] := by decide +kernel
/-- RF-5. -/
theorem test_invalid_alignment :
    after (asks (.regRead 0x15000042 4) (State.reset)) State.results
      = some [.invalidAccess] := by decide +kernel
/-- RF-6. -/
theorem test_invalid_offset :
    after (asks (.regRead 0x150000A0 4) (State.reset)) State.results
      = some [.invalidAccess] := by decide +kernel
/-- RF-8. -/
theorem test_invalid_block :
    after (asks (.regRead 0x20000000 4) (State.reset)) State.results
      = some [.invalidAccess] := by decide +kernel
/-- R29, R251. -/
theorem test_status_reads_back :
    after (asks (.regRead 0x15000088 4) { State.reset with reg15 := [(0x88, 0x82)] }) State.results
      = some [.value 0x82] := by decide +kernel
/-- RF-10. -/
theorem test_mask_raises_the_line :
    after (asks (.regWrite 0x15000084 4 2) { State.reset with reg15 := [(0x88, 0x82)], reg1A := [(0x08, 1)], secStatus := 1 }) State.irqLine
      = some true := by decide +kernel
/-- RF-11. -/
theorem test_status_write_ands :
    after (asks (.regWrite 0x15000088 4 0x7C) { State.reset with reg15 := [(0x88, 0x83)], reg1A := [(0x08, 1)], secStatus := 1 }) State.mainStatus
      = some 0x80 := by decide +kernel
/-- RF-13. -/
theorem test_cause_write_clears :
    after (asks (.regWrite 0x1A000008 4 1) { State.reset with reg15 := [(0x88, 0x80)], reg1A := [(0x08, 1)], secStatus := 1 }) (fun t => (t.cause 0, t.secStatus))
      = some (0, 0) := by decide +kernel
/-- RF-15. -/
theorem test_start_other_value :
    after (asks (.regWrite 0x15000040 4 2) { State.reset with reg15 := [(0x44, 0x48000000), (0x48, 0x483FFFFC), (0x4C, 0x4C3FFFFC)] }) (fun t => (t.running, t.reg .b15 0x40))
      = some (false, 2) := by decide +kernel
/-- W7. -/
theorem test_start :
    after (asks (.regWrite 0x15000040 4 3) { State.reset with reg15 := [(0x44, 0x48000000), (0x48, 0x483FFFFC), (0x4C, 0x4C3FFFFC)] }) (fun t => (t.running, t.pc, t.sp, t.results))
      = some (true, 0x48000000, #v[0x483FFFFC, 0x4C3FFFFC], [.ok]) := by decide +kernel
/-- RF-16. -/
theorem test_busy_control_starts :
    after (asks (.regWrite 0x1A000024 4 0) { State.reset with reg15 := [(0x44, 0x48000000), (0x48, 0x483FFFFC), (0x4C, 0x4C3FFFFC)] }) (fun t => (t.running, t.pc))
      = some (true, 0x48000000) := by decide +kernel
/-- DEC-5. -/
theorem test_start_misaligned_sp :
    after (asks (.regWrite 0x15000040 4 3) { State.reset with reg15 := [(0x44, 0x48000000), (0x48, 0x483FFFFC), (0x4C, 0x4C3FFFFE)] }) (fun t => (t.fault, t.results))
      = some (some (.spOutOfWindow 1 0x4C3FFFFE), [.faulted]) := by decide +kernel
/-- RF-17. -/
theorem test_segaId_accepts :
    after (asks (.regWrite 0x1A0000FC 4 0x53454741) (State.reset)) (fun t => (t.results, t.reg1A))
      = some ([.ok], []) := by decide +kernel
/-- RF-18. -/
theorem test_segaId_rejects :
    after (asks (.regWrite 0x1A0000FC 4 0x41474553) (State.reset)) (fun t => (t.fault, t.results))
      = some (some (.badSegaId 0x41474553), [.faulted]) := by decide +kernel
/-- RF-19. -/
theorem test_irqRaise :
    (fun t : State => (t.cause 2, t.secStatus, t.mainStatus, t.irqLine)) (irqRaise 0 4 { State.reset with reg15 := [(0x84, 0x80)] })
      = (1, 4, 0x80, true) := by decide +kernel
/-- IDMA-2. -/
theorem test_idma_marker :
    after (asks (.exec 0) { State.reset with reg15 := [(0x20, 0x49000000), (0x24, 1)] }) State.fault
      = some (some (.idmaBadMarker 0x49000000)) := by decide +kernel
/-- IDMA-3. -/
theorem test_idma_misaligned :
    after (asks (.exec 0) { State.reset with reg15 := [(0x20, 0x48000002), (0x24, 1)] }) State.fault
      = some (some (.idmaMisaligned 0x48000002)) := by decide +kernel
/-- IDMA-4, first call. -/
theorem test_idma_first_entry :
    after (asks (.exec 0) (put 0x48001000 [0, 0x00000100] { State.reset with reg15 := [(0x20, 0x48001000), (0x24, 2)] })) (fun t => (t.idmaAddr, t.idmaCount, t.mainStatus))
      = some (0x48001010, 1, 0) := by decide +kernel
/-- IDMA-4, second call. -/
theorem test_idma_last_entry :
    after (asks (.exec 0) (put 0x48001010 [0, 0x00000100] { State.reset with reg15 := [(0x20, 0x48001010), (0x24, 1)] })) (fun t => (t.idmaAddr, t.idmaCount, t.mainStatus))
      = some (0x48001020, 0, 1) := by decide +kernel
/-- IDMA-5. -/
theorem test_idma_stall :
    after (asks (.exec 0) (put 0x48002000 [0, 0] { State.reset with reg15 := [(0x20, 0x48002000), (0x24, 3)] })) (fun t => (t.idmaAddr, t.idmaCount, t.fault))
      = some (0x48002000, 3, none) := by decide +kernel
/-- RS-2. -/
theorem test_reset_faulted :
    after (asks (.reset) { State.reset with fault := some (.badSegaId 0), pc := 4 }) (fun t => (t.pc, t.results))
      = some (4, [.faulted]) := by decide +kernel
/-- RF-21. -/
theorem test_set_parity : after (asks (.setParity 1) (State.reset)) State.parity = some 1 := by decide +kernel
/-- DEC-8, with the byte order of R61. -/
theorem test_cram_write_faulted :
    after (asks (.cramWrite 0x48000000 .four 0x11223344) { State.reset with fault := some (.badSegaId 0) }) (fun t => (memRead t 0x48000000, t.readByte 0x48000003))
      = some (0x11223344, 0x11) := by decide +kernel
/-- A host access to command RAM at an address that is no multiple of its width is no legal operation (R264). -/
theorem test_cram_misaligned :
    (match step (asks (.cramRead 0x48000002 .four) State.reset) with
      | .fault (.illegalCramAccess a n) => some (a, n)
      | _ => none) = some (0x48000002, .four) := by decide +kernel

/-! ## Witnesses: for every obligation with hypotheses, states and operands that meet them

Each theorem is named after its obligation, and shows each clause at a boundary of its range. -/

theorem next_of_field {β : Type} {o : Host.Outcome State Fault Refusal} {f : State → β} {v : β}
    (h : field o f = some v) : ∃ t, o = .next t ∧ f t = v := by
  cases o <;> simp_all [field]

theorem ok_of_toOption {ε α : Type} {r : Except ε α} {a : α} (h : r.toOption = some a) : r = .ok a := by
  cases r <;> simp_all [Except.toOption]

/-- The next state of a step that answers one. -/
def nextOf (s : State) : State := (field (step s) id).getD s

theorem step_nextOf {s : State} (h : (field (step s) id).isSome = true) : step s = .next (nextOf s) := by
  unfold nextOf
  cases hs : step s <;> simp_all [field]

/-- A device whose host starts the CP on a KILL at `0x48000000` and then calls `Exec(5)`. -/
def killRun : State :=
  put 0x48000000 [0x00000F04] { State.reset with
    reg15 := [(0x44, 0x48000000), (0x48, 0x483FFFFC), (0x4C, 0x4C3FFFFC)]
    inputs := [.regWrite 0x15000040 4 3, .exec 5] }

/-- A state inside an `Exec(1)`, about to run `ws` at `0x48000000`. -/
def before (ws : List Word) : State := ready ws (bootAt 0x48000000)

/-- CLEAR_A with a reserved bit in its second word. -/
def reservedTail : State :=
  { before [0x00000F06, 1] with cfg := { Config.excfg with rsv := Config.excfg.rsv.set 6 #v[0xFFFFF000, 1, 0, 0, 0, 0, 0, 0] } }

/-- A device whose main status and first cause are raised, with the mask open. -/
def raised : State :=
  { State.reset with reg15 := [(0x84, 0x82), (0x88, 0x82)], reg1A := [(0x08, 1)], secStatus := 1, irqLine := true }

/-- The device after reset with two IDMA entries at `0x48001000`. -/
def twoEntries : State :=
  put 0x48001000 [0, 0x100, 0, 0, 0, 1] { State.reset with reg15 := [(0x20, 0x48001000), (0x24, 2)] }

/-- The device after reset with its IDMA registers set. -/
def idmaAt (a k : Word) : State := { State.reset with reg15 := [(0x20, a), (0x24, k)] }

/-- The device after reset with one IDMA entry left. -/
def lastEntry : State := put 0x48001010 [0, 1] (idmaAt 0x48001010 1)

theorem witness_DecodeInvertsEncode :
    Config.excfg.wf = true ∧ Instr.wf Config.excfg (.vpRecall 7 3 3) = true
      ∧ Instr.wf Config.excfg (.vpSet3 0 [0xFFFFFFFF, 0xFFFFFFFF, 0xFFFFFFFF]) = true
      ∧ Instr.wf Config.excfg (.vtxN7 0xFFFF 0xFFFF 0 0 0 0 0 0) = true := by decide +kernel

theorem witness_DecodedIsWellFormed : Config.excfg.decode [0x000E9F05, 7] = .ok (.sync 1 2 2 3, [7]) :=
  ok_of_toOption (by decide +kernel)

theorem witness_OpcodeNamesTheMnemonic :
    Config.excfg.wf = true ∧ Config.excfg.mnemonicOf 0xFFFFFE88 = some .DIAG_E88 ∧ Config.excfg.mnemonicOf 0xFFF = none := by
  decide +kernel

theorem witness_NopIsTheZeroWord : (0 : Word).extractLsb' 0 12 = 0 ∧ (0xFFFFF000 : Word).extractLsb' 0 12 = 0 := by decide

theorem witness_UnknownOpcodeFaults :
    InExec (before [0xFFFFFFFF]) 0
      ∧ ∀ m : Mnemonic, (before [0xFFFFFFFF]).cfg.opcode m ≠ (memRead (before [0xFFFFFFFF]) (before [0xFFFFFFFF]).pc).extractLsb' 0 12 := by
  refine ⟨⟨rfl, rfl, rfl⟩, ?_⟩
  intro m
  cases m <;> decide +kernel

theorem witness_FetchAndReservedBitsFault :
    (InExec (ready [0x00000F50] (bootAt 0x483FFFF4)) 0
      ∧ Config.excfg.mnemonicOf (memRead (ready [0x00000F50] (bootAt 0x483FFFF4)) 0x483FFFF4) = some .VTX3F_0
      ∧ sameWin Config.excfg 0x483FFFF4 (0x483FFFF4 + BitVec.ofNat 32 ((Config.excfg.format .VTX3F_0).bytes - 4)) = false)
    ∧ (InExec (before [0x00001000]) 0 ∧ WholeInstruction (before [0x00001000]) .NOP
      ∧ memRead (before [0x00001000]) 0x48000000 &&& Config.excfg.reserved .NOP 0 ≠ 0)
    ∧ (InExec reservedTail 0 ∧ WholeInstruction reservedTail .CLEAR_A ∧ 1 < (reservedTail.cfg.format .CLEAR_A).words
      ∧ memRead reservedTail 0x48000004 &&& reservedTail.cfg.reserved .CLEAR_A 1 ≠ 0
      ∧ memRead reservedTail 0x48000000 &&& reservedTail.cfg.reserved .CLEAR_A 0 = 0) := by
  refine ⟨⟨⟨rfl, rfl, rfl⟩, ?_⟩, ⟨⟨rfl, rfl, rfl⟩, ?_, ?_⟩, ⟨rfl, rfl, rfl⟩, ?_, ?_⟩
  all_goals first | decide +kernel | exact ⟨by decide +kernel, by decide +kernel⟩

theorem witness_StepRunsDecodedInstruction :
    let s := ready [0x00000F67, 0, 0, 0, 0, 0, 0, 0] (bootAt 0x483FFFE0)
    InExec s 0 ∧ WholeInstruction s .VTXN_7
      ∧ s.cfg.decodeBytes (bytesAt s s.pc (s.cfg.format .VTXN_7).bytes) = .ok (.vtxN7 0 0 0 0 0 0 0 0, []) :=
  ⟨⟨rfl, rfl, rfl⟩, ⟨by decide +kernel, by decide +kernel⟩, ok_of_toOption (by decide +kernel)⟩

theorem witness_InvariantCheckFaultsInOrder :
    (let s := ready [0x00000000] (bootAt 0x483FFFFC);
      InExec s 0 ∧ fetch s = .ok .nop ∧ ∃ t, exec .nop s = .next t ∧ (t.fault, codeAddress t.cfg t.pc) = (none, false))
    ∧ (let s := ready [0x00000F02, 0x13000040] (boot 0x48000010 0x48000000 0x4C3FFFFC);
      InExec s 0 ∧ fetch s = .ok (.call 0x13000040)
        ∧ ∃ t, exec (.call 0x13000040) s = .next t
          ∧ (t.fault, codeAddress t.cfg t.pc, codeAddress t.cfg (t.sp.get 0)) = (none, true, false))
    ∧ (let s := ready [0x00000000] (boot 0x48000000 0x483FFFFC 0x4C3FFFFE);
      InExec s 0 ∧ fetch s = .ok .nop
        ∧ ∃ t, exec .nop s = .next t
          ∧ (t.fault, codeAddress t.cfg t.pc, codeAddress t.cfg (t.sp.get 0), codeAddress t.cfg (t.sp.get 1))
            = (none, true, true, false)) :=
  ⟨⟨⟨rfl, rfl, rfl⟩, ok_of_toOption (by decide +kernel), next_of_field (by decide +kernel)⟩,
    ⟨⟨rfl, rfl, rfl⟩, ok_of_toOption (by decide +kernel), next_of_field (by decide +kernel)⟩,
    ⟨rfl, rfl, rfl⟩, ok_of_toOption (by decide +kernel), next_of_field (by decide +kernel)⟩

theorem witness_JumpTakesItsTarget :
    (bootAt 0x48000000).fault = none
      ∧ ([0x11FFFFFF, 0x12000000, 0x120FFFFF, 0x12100000].map fun w1 : Word =>
          decide (0x48000000 ≤ (w1 * 4).toNat ∧ (w1 * 4).toNat < 0x48400000)) = [false, true, true, false] := by
  decide +kernel

theorem witness_CallPushesAndJumps :
    (bootAt 0x48000000).fault = none
      ∧ ([0x12FFFFFF, 0x13000000, 0x130FFFFF, 0x13100000].map fun w1 : Word =>
          decide ((bootAt 0x48000000).cfg.wcBase.toNat ≤ (w1 * 4).toNat
            ∧ (w1 * 4).toNat < (bootAt 0x48000000).cfg.wcBase.toNat + 0x400000)) = [false, true, true, false] := by
  decide +kernel

theorem witness_CallStoresOneWord :
    let s := bootAt 0x48000000
    (∃ t, exec (.call 0x13000040) s = .next t ∧ t.pc = 0x4C000100)
      ∧ storageLoc s.cfg 0x48400000 ∉ wordLocations s.cfg (s.sp.get s.parity)
      ∧ storageLoc s.cfg 0x483FFFFB ∉ wordLocations s.cfg (s.sp.get s.parity)
      ∧ (wordLocations s.cfg (s.sp.get s.parity)).Nodup :=
  ⟨next_of_field (by decide +kernel), by decide +kernel, by decide +kernel, by decide +kernel⟩

theorem witness_CallThenRetReturns :
    inWc (bootAt 0x48000000).cfg (0x130FFFFF * 4) = true
      ∧ (wordLocations (bootAt 0x48000000).cfg ((bootAt 0x48000000).sp.get 0)).Nodup := by decide +kernel

theorem witness_KillEndsTheExec_step :
    let s := { before [0x00000F04] with budget := some 10 }
    InExec s 9 ∧ fetch s = .ok .kill ∧ codeAddress s.cfg (s.pc + 4) = true ∧ codeAddress s.cfg (s.sp.get 0) = true
      ∧ codeAddress s.cfg (s.sp.get 1) = true :=
  ⟨⟨rfl, rfl, rfl⟩, ok_of_toOption (by decide +kernel), by decide +kernel⟩

theorem callsBegin_killRun : CallsBegin killRun :=
  ⟨0x15000040, 3, [.exec 5], ⟨rfl, rfl, rfl⟩, .inl ⟨by decide +kernel, rfl⟩⟩

/-- The run that the start write begins has not ended after it, reaches its `Exec`, and ends normally by the KILL. -/
theorem witness_KillEndsTheExec :
    NotEnded (nextOf killRun) (nextOf killRun)
      ∧ InRun (nextOf killRun) (nextOf (nextOf killRun)) ∧ InExec (nextOf (nextOf killRun)) 4
      ∧ step (nextOf (nextOf killRun)) = .next (nextOf (nextOf (nextOf killRun)))
      ∧ (nextOf (nextOf (nextOf killRun))).running = false ∧ (nextOf (nextOf (nextOf killRun))).fault = none
      ∧ EndedNormally (nextOf killRun) (nextOf (nextOf (nextOf killRun))) := by
  have h0 : step killRun = .next (nextOf killRun) := step_nextOf (by decide +kernel)
  have h1 : step (nextOf killRun) = .next (nextOf (nextOf killRun)) := step_nextOf (by decide +kernel)
  have h2 : step (nextOf (nextOf killRun)) = .next (nextOf (nextOf (nextOf killRun))) := step_nextOf (by decide +kernel)
  have hi : (nextOf killRun).inputs = [.exec 5] := by decide +kernel
  have begun : InRun (nextOf killRun) (nextOf killRun) := .begun callsBegin_killRun h0
  have run : InRun (nextOf killRun) (nextOf (nextOf killRun)) := by
    refine .onward begun ?_ ?_ h1
    · rintro ⟨_, _, _, hc, _⟩
      exact absurd (hi ▸ hc.2.2) (by simp)
    · rintro ⟨_, hc⟩
      exact absurd (hi ▸ hc.2.2) (by simp)
  have inExec : InExec (nextOf (nextOf killRun)) 4 := ⟨by decide +kernel, by decide +kernel, by decide +kernel⟩
  have fault : (nextOf (nextOf (nextOf killRun))).fault = none := by decide +kernel
  exact ⟨⟨begun, by unfold Unfaulted; decide +kernel, by decide +kernel⟩, run, inExec, h2, by decide +kernel, fault,
    _, run, ⟨4, inExec⟩, ok_of_toOption (by decide +kernel), h2, fault⟩

theorem witness_CompletionClearsBusyAndRaises :
    ¬ raisedRegister .b15 0x84 ∧ ¬ raisedRegister .b1A 0x18 ∧ ¬ raisedRegister .b1A 0x04
      ∧ keptByCompletion Config.excfg .b15 0x40 = 0xFFFFFFFE ∧ keptByCompletion Config.excfg .b15 0x84 = 0xFFFFFFFF
      ∧ Config.excfg.cpDoneSec.getLsbD (0 : Fin 4).val = true ∧ Config.excfg.cpDoneSec.getLsbD (3 : Fin 4).val = false := by
  unfold raisedRegister
  decide +kernel

theorem witness_SyncAdvancesOrFaults :
    (before [0x000FFF05]).fault = none ∧ (3 : BitVec 2) ++ (3 : BitVec 2) ++ (3 : BitVec 2) ++ (3 : BitVec 2) ∉ Config.excfg.syncIllegal
      ∧ (3 : BitVec 2) ++ (2 : BitVec 2) ++ (2 : BitVec 2) ++ (1 : BitVec 2)
        ∈ ({ Config.excfg with syncIllegal := [0xE9] } : Cfg).syncIllegal := by decide +kernel

theorem witness_VpCommitCopiesTheScratch :
    (1 : BitVec 3) ≠ 0 ∧ (7 : BitVec 3) ≠ 0 ∧ 0 ≠ (7 : BitVec 3).toNat ∧ (bootAt 0x48000000).fault = none := by decide

theorem witness_CommittedSlotKeepsItsCopy : (1 : BitVec 3) ≠ 0 ∧ (7 : BitVec 3) ≠ 0 ∧ (5 : Fin 6) ≠ 0 := by decide

theorem witness_TexCoordEmits :
    let s := fullRing (bootAt 0x48000000)
    s.ring.get (s.cursor - 1) = some ⟨0, 0x3F800000, 0⟩ ∧ s.ring.get (s.cursor - 2) = some ⟨0x3F000000, 0x3FC00000, 0⟩
      ∧ s.ring.get (s.cursor - 3) = some ⟨0x3F800000, 0x40000000, 0x3F800000⟩ := by decide +kernel

theorem witness_TexCoordFaultsOnAnEmptySlot :
    let p : Option Vec3 := some ⟨0, 0, 0⟩
    let s := fun r : Vector (Option Vec3) 3 => { bootAt 0x48000000 with ring := r }
    let empty := fun (s : State) (k : Fin 3) => s.fault = none ∧ s.ring.get (s.cursor - 1 - k) = none
      ∧ ∀ j : Fin 3, j < k → s.ring.get (s.cursor - 1 - j) ≠ none
    empty (s #v[none, none, none]) 0 ∧ empty (s #v[none, none, p]) 1 ∧ empty (s #v[none, p, p]) 2 := by decide +kernel

theorem witness_RoundingIsNearestEven :
    let off := fun (k num den : Nat) => ((f32Units (BitVec.ofNat 32 k) : Int) * den - num).natAbs
    roundUnits 1 2 < 0x7F800000 ∧ off (roundUnits 1 2) 1 2 = off 1 1 2 ∧ 1 ≠ roundUnits 1 2
      ∧ (2 ^ 25 - 1) * 2 ^ 252 * 1 ≤ (2 ^ 25 - 1) * 2 ^ 252 ∧ roundUnits ((2 ^ 25 - 1) * 2 ^ 252) 1 = 0x7F800000
      ∧ roundUnits ((2 ^ 25 - 1) * 2 ^ 252 - 1) 1 = 0x7F7FFFFF := by decide +kernel

/-- The operands of each clause on division and addition: NaN, infinity, finite, a zero divisor, and a zero sum. -/
theorem witness_RoundingIsNearestEven_operands :
    Config.excfg.arith = .ieee754
      ∧ (f32Exp 0x7FC00000, f32Frac 0x7FC00000) = (255, 0x400000) ∧ (f32Exp 0xFF800000, f32Frac 0xFF800000) = (255, 0)
      ∧ f32Exp 0x7F7FFFFF = 254 ∧ f32Units 0x80000000 = 0 ∧ f32Units 0x00000001 = 1
      ∧ f32Value 0x3F800000 + f32Value 0xBF800000 = 0 ∧ f32Value 0x80000000 + f32Value 0x80000000 = 0
      ∧ (2 ^ 31 - 1 < 2 ^ 31) := by decide +kernel

/-- IEEE-754's special values, from the standard: log entry 16. -/
theorem test_special_values :
    ieeeDiv 0x3F800000 0x80000000 = some 0xFF800000 ∧ ieeeDiv 0x80000000 0x00000000 = none
      ∧ ieeeDiv 0xBF800000 0x7F800000 = some 0x80000000 ∧ ieeeAdd 0x7F800000 0xFF800000 = none
      ∧ ieeeAdd 0x3F800000 0xBF800000 = some 0 ∧ ieeeAdd 0x80000000 0x80000000 = some 0x80000000 := by decide +kernel

theorem witness_NoInstructionChangesARegister : ∃ t, exec .kill (bootAt 0x48000000) = .next t ∧ t.running = false :=
  next_of_field (by decide +kernel)

theorem witness_OnlyCallStores :
    (∃ t, exec .ret (bootAt 0x48000000) = .next t ∧ t.sp.get 0 = 0x48400000) ∧ Instr.ret.mnemonic ≠ .CALL :=
  ⟨next_of_field (by decide +kernel), by decide⟩

theorem witness_StackAndRunningChangeOnlyByTheirInstructions :
    (∃ t, exec .nop (bootAt 0x48000000) = .next t ∧ t.pc = 0x48000004) ∧ (1 : Fin 2) ≠ (bootAt 0x48000000).parity
      ∧ Instr.nop.mnemonic ≠ .CALL ∧ Instr.nop.mnemonic ≠ .RET :=
  ⟨next_of_field (by decide +kernel), by decide, by decide, by decide⟩

theorem witness_OnlyVertexInstructionsUseTheAssembler :
    (∃ t, exec .nop (bootAt 0x48000000) = .next t ∧ t.pc = 0x48000004)
      ∧ Instr.nop.mnemonic ∉ [.VTX3F_0, .VTX3F_1, .VTX3F_2, .VTX3F_3] ∧ Instr.nop.mnemonic ∉ [.TEXCOORD_0, .TEXCOORD_1] :=
  ⟨next_of_field (by decide +kernel), by decide, by decide⟩

theorem witness_TablesChangeOnlyByReset :
    (∃ t, step (before [0x00007F16]) = .next t ∧ (Table.get t.viewports 7).committed = true)
      ∧ ¬ ((before [0x00007F16]).budget = none ∧ (before [0x00007F16]).inputs.head? = some .reset) :=
  ⟨next_of_field (by decide +kernel), by decide +kernel⟩

theorem witness_TrianglesAreOnlyAdded :
    ∃ t, step (ready [0x00000F70, 0, 0, 0] (fullRing (bootAt 0x48000000))) = .next t ∧ t.triOut.length = 1 :=
  next_of_field (by decide +kernel)

theorem witness_ParityChangesOnlyByTheHost :
    (∃ t, step (asks (.setParity 1) State.reset) = .next t ∧ t.parity = 1)
      ∧ ∃ t, step (asks .reset { State.reset with parity := 1 }) = .next t ∧ t.parity = 0 :=
  ⟨next_of_field (by decide +kernel), next_of_field (by decide +kernel)⟩

theorem witness_FaultIsSticky :
    ∃ t, step (asks (.exec 1) { State.reset with fault := some (.badSegaId 0) }) = .next t ∧ t.results = [.faulted] :=
  next_of_field (by decide +kernel)

theorem witness_FaultedDeviceIsQuiescent :
    let s := asks (.exec 1) { State.reset with fault := some (.badSegaId 0) }
    s.fault = some (.badSegaId 0) ∧ s.budget = none ∧ s.inputs = .exec 1 :: []
      ∧ (∀ a n, HostOp.exec 1 ≠ .cramRead a n) ∧ ∀ a n v, HostOp.exec 1 ≠ .cramWrite a n v :=
  ⟨rfl, rfl, rfl, nofun, nofun⟩

theorem witness_StepKeepsInterruptInvariants :
    raised.cfg.wf = true ∧ (∃ t, step (asks (.regWrite 0x1A000008 4 1) raised) = .next t ∧ t.secStatus = 0)
      ∧ IrqConsistent (asks (.regWrite 0x1A000008 4 1) raised) ∧ IrqBitsConfined (asks (.regWrite 0x1A000008 4 1) raised) := by
  refine ⟨by decide +kernel, next_of_field (by decide +kernel), ?_, ?_⟩
  · unfold IrqConsistent; decide +kernel
  · unfold IrqBitsConfined; decide +kernel

theorem witness_StepKeepsCodeAddresses :
    CodeAddressesHold (before [0]) ∧ ∃ t, step (before [0]) = .next t ∧ t.pc = 0x48000004 := by
  refine ⟨?_, next_of_field (by decide +kernel)⟩
  unfold CodeAddressesHold; decide +kernel

theorem witness_StepKeepsStorageCanonical :
    StorageCanonical (before [0x00007F16]) ∧ ∃ t, step (before [0x00007F16]) = .next t ∧ t.viewports.length = 1 := by
  refine ⟨?_, next_of_field (by decide +kernel)⟩
  unfold StorageCanonical; decide +kernel

theorem witness_EachInstructionCostsOneUnit :
    InExec { before [0] with budget := some 2 } 1
      ∧ (∃ t, step { before [0] with budget := some 2 } = .next t ∧ t.budget = some 1)
      ∧ InExec (before [0]) 0 ∧ ∃ t, step (before [0]) = .next t ∧ t.budget = none :=
  ⟨⟨rfl, rfl, rfl⟩, next_of_field (by decide +kernel), ⟨rfl, rfl, rfl⟩, next_of_field (by decide +kernel)⟩

theorem witness_StepsMakeUpExec :
    (asks (.exec 1) (put 0x48000000 [0] (bootAt 0x48000000))).budget = none
      ∧ (asks (.exec 1) (put 0x48000000 [0] (bootAt 0x48000000))).inputs = .exec 1 :: [] := ⟨rfl, rfl⟩

theorem witness_InvalidAccessChangesNothing :
    HostCalls (asks (.regRead 0x150000A0 4) State.reset) (.regRead 0x150000A0 4) []
      ∧ HostCalls (asks (.regWrite 0x1500009C 2 0) State.reset) (.regWrite 0x1500009C 2 0) []
      ∧ (∀ b o, busDecode Config.excfg 0x150000A0 4 ≠ some (b, o)) ∧ (∀ b o, busDecode Config.excfg 0x1500009C 2 ≠ some (b, o))
      ∧ ([0x104, 0x108, 0x17C, 0x180, 0x1BC, 0x1C0, 0x1FC, 0x200, 0x23C, 0x240, 0x27C, 0x280, 0x28C, 0x290].map fun o : Word =>
          (busDecode Config.excfg (0x1A000000 + o) 4).isSome)
        = [true, false, false, true, true, false, false, true, true, false, false, true, true, false] := by
  have h1 : busDecode Config.excfg 0x150000A0 4 = none := by decide +kernel
  have h2 : busDecode Config.excfg 0x1500009C 2 = none := by decide +kernel
  refine ⟨⟨rfl, rfl, rfl⟩, ⟨rfl, rfl, rfl⟩, fun b o h => ?_, fun b o h => ?_, by decide +kernel⟩
  · cases h1.symm.trans h
  · cases h2.symm.trans h

theorem witness_PlainStorageReadsBack :
    (busDecode Config.excfg 0x1500009C 4 = some (.b15, 0x9C) ∧ plainRegister Config.excfg .b15 0x9C = true)
      ∧ (busDecode Config.excfg 0x1A000104 4 = some (.b1A, 0x104) ∧ plainRegister Config.excfg .b1A 0x104 = true)
      ∧ HostCalls (asks (.regWrite 0x1500009C 4 5) State.reset) (.regWrite 0x1500009C 4 5) []
      ∧ HostCalls (asks (.regRead 0x15000088 4) raised) (.regRead 0x15000088 4) []
      ∧ busDecode Config.excfg 0x15000088 4 = some (.b15, 0x88) ∧ busDecode Config.excfg 0x1A000014 4 = some (.b1A, 0x14)
      ∧ (Block.b1A, 0x14) ≠ (.b18, 0) ∧ (Block.b1A, 0x14) ≠ (.b1A, 0x18) ∧ (Block.b1A, 0x14) ≠ (.b1A, Config.excfg.offSegaId)
      ∧ ∀ r ∈ raised.cfg.readClear, (r.block, r.offset) ≠ (.b15, 0x88) :=
  ⟨by decide +kernel, by decide +kernel, ⟨rfl, rfl, rfl⟩, ⟨rfl, rfl, rfl⟩, by decide +kernel, by decide +kernel, by decide +kernel,
    by decide +kernel, by decide +kernel, by decide +kernel⟩

theorem witness_ReadClearClearsAfterTheRead :
    let s := asks (.regRead 0x1A000014 4) { raised with cfg := { Config.excfg with readClear := [⟨.b1A, 0x14, 1⟩] } }
    HostCalls s (.regRead 0x1A000014 4) [] ∧ busDecode s.cfg 0x1A000014 4 = some (.b1A, 0x08 + 4 * (3 : Fin 4).val)
      ∧ s.cfg.offSegaId ≠ 0x08 + 4 * (3 : Fin 4).val ∧ s.cfg.readClear = [⟨.b1A, 0x08 + 4 * (3 : Fin 4).val, 1⟩] :=
  ⟨⟨rfl, rfl, rfl⟩, by decide +kernel, by decide +kernel, rfl⟩

theorem witness_BoardIdIsConstant :
    busDecode Config.excfg 0x18000000 4 = some (.b18, 0)
      ∧ HostCalls (asks (.regRead 0x18000000 4) State.reset) (.regRead 0x18000000 4) []
      ∧ HostCalls (asks (.regWrite 0x18000000 4 1) State.reset) (.regWrite 0x18000000 4 1) [] :=
  ⟨by decide +kernel, ⟨rfl, rfl, rfl⟩, rfl, rfl, rfl⟩

theorem witness_SecondaryStatusAndSegaWord :
    busDecode Config.excfg 0x1A000018 4 = some (.b1A, 0x18)
      ∧ busDecode Config.excfg 0x1A0000FC 4 = some (.b1A, Config.excfg.offSegaId)
      ∧ Config.excfg.offSegaId ∉ [0x08, 0x0C, 0x10, 0x14, 0x18, 0x24]
      ∧ HostCalls (asks (.regRead 0x1A000018 4) State.reset) (.regRead 0x1A000018 4) []
      ∧ HostCalls (asks (.regWrite 0x1A000018 4 15) State.reset) (.regWrite 0x1A000018 4 15) []
      ∧ HostCalls (asks (.regRead 0x1A0000FC 4) State.reset) (.regRead 0x1A0000FC 4) []
      ∧ HostCalls (asks (.regWrite 0x1A0000FC 4 0x53454741) State.reset) (.regWrite 0x1A0000FC 4 0x53454741) []
      ∧ HostCalls (asks (.regWrite 0x1A0000FC 4 0x53454742) State.reset) (.regWrite 0x1A0000FC 4 0x53454742) [] :=
  ⟨by decide +kernel, by decide +kernel, by decide +kernel, ⟨rfl, rfl, rfl⟩, ⟨rfl, rfl, rfl⟩, ⟨rfl, rfl, rfl⟩, ⟨rfl, rfl, rfl⟩,
    rfl, rfl, rfl⟩

theorem witness_InterruptRegisterWrites :
    HostCalls (asks (.regWrite 0x15000084 4 0xFFFFFFFF) raised) (.regWrite 0x15000084 4 0xFFFFFFFF) []
      ∧ HostCalls (asks (.regWrite 0x15000088 4 0) raised) (.regWrite 0x15000088 4 0) []
      ∧ HostCalls (asks (.regWrite 0x1A000014 4 1) raised) (.regWrite 0x1A000014 4 1) []
      ∧ busDecode Config.excfg 0x15000084 4 = some (.b15, 0x84) ∧ busDecode Config.excfg 0x15000088 4 = some (.b15, 0x88)
      ∧ busDecode Config.excfg 0x1A000008 4 = some (.b1A, 0x08 + 4 * (0 : Fin 4).val)
      ∧ busDecode Config.excfg 0x1A000014 4 = some (.b1A, 0x08 + 4 * (3 : Fin 4).val) :=
  ⟨⟨rfl, rfl, rfl⟩, ⟨rfl, rfl, rfl⟩, ⟨rfl, rfl, rfl⟩, by decide +kernel, by decide +kernel, by decide +kernel,
    by decide +kernel⟩

theorem witness_StartWritesBegin :
    let good := { State.reset with reg15 := [(0x44, 0x48000000), (0x48, 0x483FFFFC), (0x4C, 0x4C3FFFFC)] }
    good.cfg.wf = true
      ∧ HostCalls (asks (.regWrite 0x15000040 4 3) good) (.regWrite 0x15000040 4 3) []
      ∧ HostCalls (asks (.regWrite 0x15000040 4 2) good) (.regWrite 0x15000040 4 2) []
      ∧ HostCalls (asks (.regWrite 0x1A000024 4 0) good) (.regWrite 0x1A000024 4 0) []
      ∧ busDecode good.cfg 0x15000040 4 = some (.b15, good.cfg.offStart) ∧ busDecode good.cfg 0x1A000024 4 = some (.b1A, 0x24)
      ∧ codeAddress good.cfg (good.reg .b15 good.cfg.offPcSeed) = true
      ∧ codeAddress good.cfg (good.reg .b15 good.cfg.offSp0Seed) = true
      ∧ codeAddress good.cfg (good.reg .b15 good.cfg.offSp1Seed) = true
      ∧ codeAddress State.reset.cfg (State.reset.reg .b15 State.reset.cfg.offPcSeed) = false :=
  ⟨by decide +kernel, ⟨rfl, rfl, rfl⟩, ⟨rfl, rfl, rfl⟩, ⟨rfl, rfl, rfl⟩, by decide +kernel, by decide +kernel, by decide +kernel,
    by decide +kernel, by decide +kernel, by decide +kernel⟩

theorem witness_IdmaStepFollowsItsRule :
    let marked := fun s : State => decide (s.idmaAddr.extractLsb' 24 8 = s.cfg.idmaMarker)
    let aligned := fun s : State => decide (s.idmaAddr &&& 3 = 0)
    let facts := fun s : State => (decide (s.idmaCount = 0), marked s, aligned s)
    State.reset.cfg.wf = true ∧ State.reset.fault = none ∧ State.reset.idmaCount = 0
      ∧ facts (idmaAt 0x49000000 1) = (false, false, true) ∧ facts (idmaAt 0x48000002 1) = (false, true, false)
      ∧ facts (idmaAt 0x49000002 1) = (false, false, false) ∧ facts twoEntries = (false, true, true)
      ∧ memRead twoEntries (twoEntries.idmaAddr + 4) ≠ 0 ∧ twoEntries.idmaCount ≠ 1
      ∧ facts lastEntry = (false, true, true) ∧ memRead lastEntry (lastEntry.idmaAddr + 4) ≠ 0 ∧ lastEntry.idmaCount = 1
      ∧ facts (put 0x48FFFFFC [0, 0] (idmaAt 0x48FFFFFC 1)) = (false, true, true)
      ∧ memRead (put 0x48FFFFFC [0, 0] (idmaAt 0x48FFFFFC 1)) (0x48FFFFFC + 4) = 0 := by decide +kernel

theorem witness_IdmaWalkTakesOneStepPerEntry :
    twoEntries.cfg.wf = true ∧ twoEntries.fault = none ∧ 0 < 2 ∧ 2 < 2 ^ 32 ∧ twoEntries.idmaCount = BitVec.ofNat 32 2
      ∧ (∀ j < 2, idmaMarked twoEntries.cfg (twoEntries.idmaAddr + BitVec.ofNat 32 (16 * j)) = true)
      ∧ aligned4 twoEntries.idmaAddr = true
      ∧ ∀ j < 2, memRead twoEntries (twoEntries.idmaAddr + BitVec.ofNat 32 (16 * j) + 4) ≠ 0 := by decide +kernel

theorem witness_SetParitySelectsTheStack :
    HostCalls (asks (.setParity 1) State.reset) (.setParity 1) [] ∧ HostCalls (asks (.setParity 0) State.reset) (.setParity 0) [] :=
  ⟨⟨rfl, rfl, rfl⟩, rfl, rfl, rfl⟩

theorem witness_ResetClearsTheDevice : HostCalls (asks .reset raised) .reset [] := ⟨rfl, rfl, rfl⟩

theorem witness_HostAccessesToCommandRam :
    (asks (.cramWrite 0xFFFFFFFC .four 1) State.reset).budget = none ∧ State.reset.cfg.cramEndian = .little
      ∧ (asks (.cramWrite 0xFFFFFFFC .four 1) State.reset).inputs = .cramWrite 0xFFFFFFFC .four 1 :: []
      ∧ (0xFFFFFFFC : Word).toNat % 4 = 0 ∧ (wordLocations State.reset.cfg 0xFFFFFFFC).Nodup
      ∧ (0xFFFFFFFE : Word).toNat % 2 = 0 ∧ storageLoc State.reset.cfg 0xFFFFFFFE ≠ storageLoc State.reset.cfg (0xFFFFFFFE + 1)
      ∧ storageLoc State.reset.cfg 0 ∉ wordLocations State.reset.cfg 0xFFFFFFFC := by decide +kernel

end Sys2Proof.Machine.Tests
end

section
/-! Inversions of the step: what one instruction's meaning, one host operation and one step can do, said once. -/

namespace Sys2Proof.Machine

/-! ## What an instruction does (R102) -/

/-- What the meaning of instruction `i` can make of state `s`: most only move the pc, a few write one thing first, and a rule
that raises leaves the pc where it was (R294). -/
inductive ExecEffect (s : State) : Instr → State → Prop
  | advances (i : Instr) : ExecEffect s i (advance i.mnemonic s)
  | faults (i : Instr) (r : FaultReason) : ExecEffect s i (raise r s)
  | jumps (w1 : Word) : ExecEffect s (.jump w1) (setPc (targetOf w1) s)
  | calls (w1 : Word) : ExecEffect s (.call w1) (setPc (targetOf w1) (pushCall s))
  | callFaults (w1 : Word) :
      ExecEffect s (.call w1) (raise (.targetOutOfWindow .CALL (targetOf w1) s.pc) (pushCall s))
  | returns : ExecEffect s .ret (setPc (memRead s (spUp s.activeSp) + 8) (setActiveSp (spUp s.activeSp) s))
  | kills : ExecEffect s .kill (advance .KILL { s with running := false })
  | stagesViewport (i : Instr) (k : Fin 6) (ws : List Word)
      (hi : i.mnemonic ∈ [.VP_SET_0, .VP_SET_1, .VP_SET_2, .VP_SET_3, .VP_SET_4, .VP_SET_5]) :
      ExecEffect s i (advance i.mnemonic (setVpPart k ws s))
  | commitsViewport (n : BitVec 3) (hn : n ≠ 0) :
      ExecEffect s (.vpCommit n) (advance .VP_COMMIT (commitInBounds .viewport n.toNat s))
  | stagesRow (i : Instr) (r : Fin 4) (row : Vec3)
      (hi : i.mnemonic ∈ [.MTX_SET_0, .MTX_SET_1, .MTX_SET_2, .MTX_SET_3]) :
      ExecEffect s i (advance i.mnemonic (setMvRow r row s))
  | appends (i : Instr) (p : Vec3) (hi : i.mnemonic ∈ [.VTX3F_0, .VTX3F_1, .VTX3F_2, .VTX3F_3]) :
      ExecEffect s i (advance i.mnemonic (append p s))
  | emits (i : Instr) (x : Triangle) (hi : i.mnemonic ∈ [.TEXCOORD_0, .TEXCOORD_1]) :
      ExecEffect s i (advance i.mnemonic (emit x { s with draws := s.draws + 6 }))

/-- `emit_triangle` succeeds by handing out one triangle and making its six draws (R192, R193). -/
theorem emitTriangle_ok {u0 u1 u2 : UV} {s t : State} (h : emitTriangle u0 u1 u2 s = .ok t) :
    ∃ x, t = emit x { s with draws := s.draws + 6 } := by
  unfold emitTriangle at h
  split at h <;> cases h
  exact ⟨_, rfl⟩

/-- `TexCoord(v)` hands out one triangle and moves the pc, or raises (R211). -/
theorem texCoord_cases {m : Mnemonic} {w0 w1 w2 : Word} {s t : State} (h : texCoord m w0 w1 w2 s = .next t) :
    (∃ x, t = advance m (emit x { s with draws := s.draws + 6 })) ∨ ∃ r, t = raise r s := by
  unfold texCoord at h
  split at h
  · next u hu =>
    obtain ⟨x, rfl⟩ := emitTriangle_ok hu
    cases h
    exact .inl ⟨x, rfl⟩
  · next r _ =>
    cases h
    exact .inr ⟨r, rfl⟩

theorem texCoord_effect {i : Instr} {w0 w1 w2 : Word} {s t : State}
    (hi : i.mnemonic ∈ [.TEXCOORD_0, .TEXCOORD_1]) (h : texCoord i.mnemonic w0 w1 w2 s = .next t) : ExecEffect s i t := by
  obtain ⟨x, rfl⟩ | ⟨r, rfl⟩ := texCoord_cases h
  · exact .emits i x hi
  · exact .faults i r

/-- VP_COMMIT on slot 0 raises; every other slot that its field can name is within the table (R141, R150). -/
theorem execVpCommit_eq (n : BitVec 3) (s : State) :
    execVpCommit n s = .next (if n = 0 then raise (.badField .VP_COMMIT .n (n.setWidth 32) s.pc) s
      else advance .VP_COMMIT (commitInBounds .viewport n.toNat s)) := by
  have hn : n.toNat < 8 := n.isLt
  unfold execVpCommit
  split
  · rfl
  · rw [commit_viewport, if_pos hn]
    rfl

/-- Every next state of an instruction's meaning is one of its effects. -/
theorem exec_effect {i : Instr} {s t : State} (h : exec i s = .next t) : ExecEffect s i t := by
  cases i with
  | jump w1 =>
    simp only [exec, execJump] at h
    split at h <;> cases h
    · exact .jumps w1
    · exact .faults _ _
  | call w1 =>
    simp only [exec, execCall] at h
    split at h <;> cases h
    · exact .calls w1
    · exact .callFaults w1
  | ret => cases h; exact .returns
  | kill => cases h; exact .kills
  | sync s0 s1 s2 s3 =>
    simp only [exec, execSync] at h
    split at h <;> cases h
    · exact .advances _
    · exact .faults _ _
  | vpSet0 | vpSet1 | vpSet2 | vpSet3 | vpSet4 | vpSet5 =>
    cases h
    exact .stagesViewport _ _ _ (by simp [Instr.mnemonic])
  | vpCommit n =>
    simp only [exec, execVpCommit_eq] at h
    split at h <;> cases h
    · exact .faults _ _
    · next hn => exact .commitsViewport n hn
  | mtxSet0 | mtxSet1 | mtxSet2 | mtxSet3 =>
    cases h
    exact .stagesRow _ _ _ (by simp [Instr.mnemonic])
  | vtx3f0 | vtx3f1 | vtx3f2 | vtx3f3 =>
    cases h
    exact .appends _ _ (by simp [Instr.mnemonic])
  | texCoord0 | texCoord1 => exact texCoord_effect (by simp [Instr.mnemonic]) h
  | _ =>
    cases h
    exact .advances _

/-! ## What a step does (R13) -/

/-- One turn of `Exec`'s loop fetches no instruction and ends, or runs the one it fetched (R101, R102). -/
theorem cpStep_cases {b : Nat} {s t : State} (h : cpStep b s = .next t) :
    (∃ r, fetch s = .error r ∧ t = decodeFault r s)
      ∨ ∃ i u, fetch s = .ok i ∧ exec i s = .next u ∧ t = afterExecute i b u := by
  unfold cpStep at h
  split at h
  · next r hf =>
    cases h
    exact .inl ⟨r, hf, rfl⟩
  · next i hf =>
    split at h <;> cases h
    next u hu => exact .inr ⟨i, u, hf, hu, rfl⟩

/-- The five things a step can be: none without a host operation to come, the next host operation, the end of an `Exec` that
cannot go on, an instruction that does not decode, and an instruction (R8, R101, R102, R250). -/
theorem step_cases {s t : State} (h : step s = .next t) :
    (s.budget = none ∧ s.inputs = [] ∧ t = s)
      ∨ (∃ op rest, s.budget = none ∧ s.inputs = op :: rest ∧ hostOp op { s with inputs := rest } = .next t)
      ∨ (∃ b, s.budget = some b ∧ loopRuns b s = false ∧ t = endExec s)
      ∨ (∃ b r, s.budget = some b ∧ loopRuns b s = true ∧ fetch s = .error r ∧ t = decodeFault r s)
      ∨ (∃ b i u, s.budget = some b ∧ loopRuns b s = true ∧ fetch s = .ok i ∧ exec i s = .next u
          ∧ t = afterExecute i (b - 1) u) := by
  obtain hb | ⟨b, hb⟩ := Option.eq_none_or_eq_some s.budget
  · rw [step_between s hb] at h
    cases hin : s.inputs with
    | nil =>
      simp only [hostStep, hin] at h
      cases h
      exact .inl ⟨hb, rfl, rfl⟩
    | cons op rest =>
      rw [hostStep_op s hin] at h
      exact .inr (.inl ⟨op, rest, hb, rfl, h⟩)
  · rw [step_inside s hb] at h
    unfold execStep at h
    split at h
    · next hloop =>
      obtain ⟨r, hf, rfl⟩ | ⟨i, u, hf, hu, rfl⟩ := cpStep_cases h
      · exact .inr (.inr (.inr (.inl ⟨b, r, hb, hloop, hf, rfl⟩)))
      · exact .inr (.inr (.inr (.inr ⟨b, i, u, hb, hloop, hf, hu, rfl⟩)))
    · next hloop =>
      cases h
      exact .inr (.inr (.inl ⟨b, hb, by simpa using hloop, rfl⟩))

end Sys2Proof.Machine
end

section
/-! The configuration and the triangles handed out: every operation around the instructions' meanings leaves both as they were,
and an instruction adds at most one triangle (R9, R50, R196). Each lemma states the pair, which `simp` uses as two rules. -/

namespace Sys2Proof.Machine

/-! ## The operations around an instruction -/

@[simp] theorem checkInvariant_output (s : State) :
    (checkInvariant s).cfg = s.cfg ∧ (checkInvariant s).triOut = s.triOut := by
  obtain ⟨h, -⟩ | ⟨r, -, h⟩ := checkInvariant_cases s <;> simp [h]

@[simp] theorem continueExec_output (b : Nat) (s : State) :
    (continueExec b s).cfg = s.cfg ∧ (continueExec b s).triOut = s.triOut := by
  obtain ⟨h, -⟩ | h := continueExec_cases b s <;> simp [h]

@[simp] theorem decodeFault_output (r : FaultReason) (s : State) :
    (decodeFault r s).cfg = s.cfg ∧ (decodeFault r s).triOut = s.triOut := by
  simp [decodeFault]

@[simp] theorem afterExecute_output (i : Instr) (b : Nat) (s : State) :
    (afterExecute i b s).cfg = s.cfg ∧ (afterExecute i b s).triOut = s.triOut := by
  unfold afterExecute
  dsimp only
  split <;> simp

@[simp] theorem beginCp_output (s : State) : (beginCp s).cfg = s.cfg ∧ (beginCp s).triOut = s.triOut := by
  unfold beginCp
  split <;> simp

@[simp] theorem idmaConsume_output (s : State) :
    (idmaConsume s).cfg = s.cfg ∧ (idmaConsume s).triOut = s.triOut := by
  unfold idmaConsume
  dsimp only
  split <;> simp

@[simp] theorem idmaStep_output (s : State) : (idmaStep s).cfg = s.cfg ∧ (idmaStep s).triOut = s.triOut := by
  obtain ⟨-, h⟩ | ⟨r, -, -, h⟩ | ⟨-, -, h⟩ | ⟨-, -, h⟩ := idmaStep_cases s <;> simp [h]

/-! ## The host operations (R250) -/

@[simp] theorem readEffect_output (b : Block) (o : Nat) (s : State) :
    (readEffect b o s).cfg = s.cfg ∧ (readEffect b o s).triOut = s.triOut := by
  unfold readEffect
  split <;> simp

@[simp] theorem regRead_output (addr : Word) (n : Nat) (s : State) :
    (regRead addr n s).cfg = s.cfg ∧ (regRead addr n s).triOut = s.triOut := by
  unfold regRead
  split <;> simp

@[simp] theorem write15_output (o : Nat) (v : Word) (s : State) :
    (write15 o v s).cfg = s.cfg ∧ (write15 o v s).triOut = s.triOut := by
  unfold write15
  split_ifs <;> simp

@[simp] theorem write18_output (o : Nat) (v : Word) (s : State) :
    (write18 o v s).cfg = s.cfg ∧ (write18 o v s).triOut = s.triOut := by
  unfold write18
  split <;> simp

@[simp] theorem write1A_output (o : Nat) (v : Word) (s : State) :
    (write1A o v s).cfg = s.cfg ∧ (write1A o v s).triOut = s.triOut := by
  unfold write1A
  split
  · simp
  · split_ifs <;> simp

@[simp] theorem writeEffect_output (b : Block) (o : Nat) (v : Word) (s : State) :
    (writeEffect b o v s).cfg = s.cfg ∧ (writeEffect b o v s).triOut = s.triOut := by
  cases b <;> simp [writeEffect]

@[simp] theorem regWrite_output (addr : Word) (n : Nat) (v : Word) (s : State) :
    (regWrite addr n v s).cfg = s.cfg ∧ (regWrite addr n v s).triOut = s.triOut := by
  unfold regWrite
  split <;> simp

@[simp] theorem cramStore_output (a : Word) (n : CramWidth) (v : Word) (s : State) :
    (cramStore a n v s).cfg = s.cfg ∧ (cramStore a n v s).triOut = s.triOut := by
  cases n <;> exact ⟨rfl, rfl⟩

@[simp] theorem resetDevice_output (s : State) :
    (resetDevice s).cfg = s.cfg ∧ (resetDevice s).triOut = s.triOut := ⟨rfl, rfl⟩

/-- A device operation that keeps both keeps them on a faulted device too, where it is not carried out (R294). -/
theorem onDevice_output {f : State → State} (hf : ∀ s, (f s).cfg = s.cfg ∧ (f s).triOut = s.triOut) (s : State) :
    (onDevice f s).cfg = s.cfg ∧ (onDevice f s).triOut = s.triOut := by
  unfold onDevice
  split
  · simp
  · exact hf s

theorem hostOp_output {op : HostOp} {s t : State} (h : hostOp op s = .next t) :
    t.cfg = s.cfg ∧ t.triOut = s.triOut := by
  cases op with
  | exec n => cases h; exact onDevice_output (by simp [startExec]) s
  | regRead addr n => cases h; exact onDevice_output (by simp) s
  | regWrite addr n v => cases h; exact onDevice_output (by simp) s
  | reset => cases h; exact onDevice_output (by simp) s
  | setParity p => cases h; exact onDevice_output (by simp) s
  | cramRead a n =>
    simp only [hostOp] at h
    split at h <;> cases h
    simp
  | cramWrite a n v =>
    simp only [hostOp] at h
    split at h <;> cases h
    simp

/-! ## The step -/

/-- An instruction's meaning keeps the configuration and hands out no triangle or one (R9, R196). -/
theorem ExecEffect.output {i : Instr} {s t : State} (h : ExecEffect s i t) :
    t.cfg = s.cfg ∧ (t.triOut = s.triOut ∨ ∃ x, t.triOut = s.triOut ++ [x]) := by
  cases h with
  | emits _ x => exact ⟨rfl, .inr ⟨x, rfl⟩⟩
  | _ => exact ⟨rfl, .inl rfl⟩

/-- A step keeps the configuration and hands out no triangle or one. -/
theorem step_output {s t : State} (h : step s = .next t) :
    t.cfg = s.cfg ∧ (t.triOut = s.triOut ∨ ∃ x, t.triOut = s.triOut ++ [x]) := by
  obtain ⟨-, -, rfl⟩ | ⟨op, rest, -, -, hop⟩ | ⟨b, -, -, rfl⟩ | ⟨b, r, -, -, -, rfl⟩ | ⟨b, i, u, -, -, -, hu, rfl⟩ :=
    step_cases h
  · exact ⟨rfl, .inl rfl⟩
  · obtain ⟨hcfg, htri⟩ := hostOp_output hop
    exact ⟨hcfg, .inl htri⟩
  · simp
  · simp
  · simpa using (exec_effect hu).output

/-- Settles O37, by what each kind of step leaves of the configuration and of the triangles. -/
theorem trianglesAreOnlyAdded : Obligations.TrianglesAreOnlyAdded := by
  intro s t h
  obtain ⟨hcfg, htri | ⟨x, htri⟩⟩ := step_output h
  · exact ⟨⟨[], by simp [htri], by simp⟩, hcfg⟩
  · exact ⟨⟨[x], htri, by simp⟩, hcfg⟩

end Sys2Proof.Machine
end

section
/-! The state after reset: empty storage is canonical and reads 0, so no interrupt stands (R9, R28, R298, R320, R321). -/

namespace Sys2Proof.Machine

/-- EXCFG meets the constraints of rule R9 (log entry 1). -/
theorem excfg_wf : Config.excfg.wf = true := by decide +kernel

theorem RegBlock.wf_nil : RegBlock.wf [] := ⟨RisingKeys_nil, by simp⟩

theorem Table.wf_nil {α : Type} (n : Nat) : Table.wf n ([] : Table α) := ⟨RisingKeys_nil, by simp⟩

/-- Every register reads 0 after reset (R28, R320). -/
@[simp] theorem reg_reset (b : Block) (o : Nat) : State.reset.reg b o = 0 := by
  cases b <;> rfl

theorem irqConsistent_reset : IrqConsistent State.reset := by
  have hline : State.reset.irqLine = false := rfl
  have hsec : State.reset.secStatus = 0 := rfl
  simp [IrqConsistent, State.mainStatus, State.mainMask, State.cause, lineLevel, hline, hsec]

theorem irqBitsConfined_reset : IrqBitsConfined State.reset := by
  simp [IrqBitsConfined, State.mainStatus, State.cause]

/-- The CP does not run after reset, so nothing is asked of its addresses (R320). -/
theorem codeAddressesHold_reset : CodeAddressesHold State.reset := by
  intro _ hrun
  have hstop : State.reset.running = false := rfl
  simp [hstop] at hrun

theorem storageCanonical_reset : StorageCanonical State.reset :=
  ⟨Memory.wf_reset, RegBlock.wf_nil, RegBlock.wf_nil, RegBlock.wf_nil, Table.wf_nil _, Table.wf_nil _, Table.wf_nil _,
    Table.wf_nil _, Table.wf_nil _, Table.wf_nil _⟩

/-- No `Exec` is in progress after reset. -/
theorem budgetHolds_reset : BudgetHolds State.reset := by
  intro b hb
  have hnone : State.reset.budget = none := rfl
  simp [hnone] at hb

/-- Settles O45: one lemma per invariant of the reset state. -/
theorem resetMeetsTheInvariants : Obligations.ResetMeetsTheInvariants :=
  ⟨excfg_wf, irqConsistent_reset, irqBitsConfined_reset, codeAddressesHold_reset, storageCanonical_reset,
    budgetHolds_reset⟩

end Sys2Proof.Machine
end

section
/-! What a step can do, in one-update moves. The engine around an instruction's meaning and the host operations on registers
are chains of a few named updates (`Move`); a whole step is such a chain, an instruction before one, or one of the three host
operations that are no move (`step_induction`). An invariant is then proved once per move, not once per operation. -/

namespace Sys2Proof.Machine

/-- One update made around the instructions' meanings: by the engine (R100, R101, R107), the DMA stepper (R281) or a register
access (R251, R252). A store outside the interrupt registers is known to be one only under the constraints of rule R9. -/
inductive Move (s : State) : State → Prop
  | stores (b : Block) (o : Nat) (v : Word)
      (h : s.cfg.wf = true → (b, o) ≠ (.b15, 0x84) ∧ ¬ raisedRegister b o) : Move s (setReg b o v s)
  | masks (v : Word) : Move s (aggregate (setReg .b15 offMask v s))
  | clears (b : Block) (o : Nat) (k : Word) : Move s (aggregate (setReg b o (s.reg b o &&& k) s))
  | raisesIrq (main : BitVec 8) (sec : BitVec 4) : Move s (irqRaise main sec s)
  | completes : Move s (complete s)
  | faults (r : FaultReason) : Move s (raise r s)
  | begins (hpc : codeAddress s.cfg (loadSeeds s).pc = true)
      (hsp : ∀ p : Fin 2, codeAddress s.cfg ((loadSeeds s).sp.get p) = true) : Move s (loadSeeds s)
  | beginFaults (r : FaultReason) : Move s (raise r (loadSeeds s))
  | draws (n : Nat) : Move s { s with draws := n }
  | takesBudget (x : Option Nat) : Move s { s with budget := x }
  | takesInputs (ops : List HostOp) : Move s { s with inputs := ops }
  | finishes (r : HostResult) : Move s (finish r s)

/-- A chain of moves. -/
abbrev Moves : State → State → Prop := Relation.ReflTransGen Move

theorem Move.moves {s t : State} (h : Move s t) : Moves s t := .single h

/-- A property that every move keeps is kept by a chain of them. -/
theorem Moves.keeps {P : State → Prop} (move : ∀ x y, Move x y → P x → P y) {s t : State} (h : Moves s t) (hs : P s) :
    P t := by
  induction h with
  | refl => exact hs
  | tail _ hm ih => exact move _ _ hm ih

theorem Move.cfg_eq {s t : State} (h : Move s t) : t.cfg = s.cfg := by
  cases h <;> rfl

/-! ## The engine (R100, R101, R107) -/

theorem checkInvariant_moves (s : State) : Moves s (checkInvariant s) := by
  obtain ⟨h, -⟩ | ⟨r, -, h⟩ := checkInvariant_cases s <;> rw [h]
  exact (Move.faults r).moves

theorem beginCp_moves (s : State) : Moves s (beginCp s) := by
  unfold beginCp
  split
  · exact .refl
  · obtain ⟨h, hpc, hsp⟩ | ⟨r, -, h⟩ := checkInvariant_cases (loadSeeds s) <;> rw [h]
    · exact (Move.begins (s := s) hpc hsp).moves
    · exact (Move.beginFaults r).moves

theorem endExec_moves (s : State) : Moves s (endExec s) :=
  (Move.takesBudget none).moves.tail (.finishes .done)

theorem continueExec_moves (b : Nat) (s : State) : Moves s (continueExec b s) := by
  obtain ⟨h, -⟩ | h := continueExec_cases b s <;> rw [h]
  · exact (Move.takesBudget (some b)).moves
  · exact endExec_moves s

theorem decodeFault_moves (r : FaultReason) (s : State) : Moves s (decodeFault r s) :=
  (Move.faults r).moves.trans (endExec_moves _)

/-- What follows the invariant check of an instruction: completion processing or not, then the loop's test. -/
theorem afterExecute_moves (i : Instr) (b : Nat) (s : State) : Moves (checkInvariant s) (afterExecute i b s) := by
  unfold afterExecute
  dsimp only
  split
  · exact Move.completes.moves.trans (continueExec_moves b _)
  · exact continueExec_moves b _

/-! ## The indirect DMA stepper (R281) -/

/-- The open offsets of block 15 are neither the mask's nor the status's (R9). -/
theorem quiet_of_mem_offsets15 {c : Cfg} {o : Nat} (ho : o ∈ c.offsets15) (h : c.wf = true) :
    (Block.b15, o) ≠ (.b15, 0x84) ∧ ¬ raisedRegister .b15 o := by
  simp only [Cfg.wf, Cfg.offsetsWf, Bool.and_eq_true, decide_eq_true_eq, List.nodup_cons, List.mem_cons, not_or] at h
  obtain ⟨⟨-, ⟨⟨-, ⟨-, hmask⟩, hstatus, -⟩, -⟩, -⟩, -⟩ := h
  refine ⟨fun h => ?_, ?_⟩
  · cases h
    exact hmask ho
  · rintro (h | ⟨i, h⟩)
    · cases h
      exact hstatus ho
    · cases h

theorem idmaConsume_moves (s : State) : Moves s (idmaConsume s) := by
  have haddr : Moves s (setReg .b15 s.cfg.offIdmaAddr (s.idmaAddr + 16) s) :=
    (Move.stores _ _ _ (quiet_of_mem_offsets15 (by simp [Cfg.offsets15]))).moves
  have hcount := haddr.tail (Move.stores .b15 s.cfg.offIdmaCount (s.idmaCount - 1)
    (quiet_of_mem_offsets15 (by simp [Cfg.offsets15])))
  unfold idmaConsume
  dsimp only
  split
  · exact hcount.tail (.raisesIrq _ _)
  · exact hcount

theorem idmaStep_moves (s : State) : Moves s (idmaStep s) := by
  obtain ⟨-, h⟩ | ⟨r, -, -, h⟩ | ⟨-, -, h⟩ | ⟨-, -, h⟩ := idmaStep_cases s <;> rw [h]
  · exact (Move.draws (s.draws + 1)).moves.tail (.faults r)
  · exact idmaConsume_moves s

/-! ## Register accesses (R251, R252) -/

theorem readEffect_moves (b : Block) (o : Nat) (s : State) : Moves s (readEffect b o s) := by
  unfold readEffect
  split
  · next r _ => exact (Move.clears r.block r.offset (~~~r.mask)).moves
  · exact .refl

theorem regRead_moves (addr : Word) (n : Nat) (s : State) : Moves s (regRead addr n s) := by
  unfold regRead
  split
  · exact (Move.finishes _).moves
  · exact ((Move.draws _).moves.trans (readEffect_moves _ _ _)).tail (.finishes _)

theorem causeAt_eq_some {o : Nat} {i : Fin 4} (h : causeAt o = some i) : o = offCause i := by
  unfold causeAt at h
  split_ifs at h <;> cases h <;> assumption

theorem causeAt_eq_none {o : Nat} (h : causeAt o = none) (i : Fin 4) : o ≠ offCause i := by
  unfold causeAt at h
  split_ifs at h
  unfold offCause
  omega

theorem write15_moves (o : Nat) (v : Word) (s : State) : Moves s (write15 o v s) := by
  unfold write15
  split_ifs with hmask hstatus hstart
  · exact (Move.masks v).moves
  · exact (Move.clears .b15 offStatus v).moves
  all_goals
    have hstore : Moves s (setReg .b15 o v s) :=
      (Move.stores _ _ _ fun _ => by simp_all [raisedRegister, offMask, offStatus]).moves
  · exact hstore.trans (beginCp_moves _)
  · exact hstore
  · exact hstore

theorem write18_moves (o : Nat) (v : Word) (s : State) : Moves s (write18 o v s) := by
  unfold write18
  split
  · exact .refl
  · exact (Move.stores _ _ _ fun _ => by simp [raisedRegister]).moves

theorem write1A_moves (o : Nat) (v : Word) (s : State) : Moves s (write1A o v s) := by
  unfold write1A
  split
  · next i hi =>
    obtain rfl := causeAt_eq_some hi
    exact (Move.clears .b1A (offCause i) (~~~v)).moves
  · next hcause =>
    have hstore : Moves s (setReg .b1A o v s) :=
      (Move.stores _ _ _ fun _ => by simpa [raisedRegister, offCause] using causeAt_eq_none hcause).moves
    split_ifs
    · exact .refl
    · exact hstore.trans (beginCp_moves _)
    · exact .refl
    · exact (Move.faults _).moves
    · exact hstore

theorem regWrite_moves (addr : Word) (n : Nat) (v : Word) (s : State) : Moves s (regWrite addr n v s) := by
  unfold regWrite
  split
  · exact (Move.finishes _).moves
  · next b o _ =>
    have hwrite : Moves s (writeEffect b o v s) := by
      cases b
      · exact write15_moves o v s
      · exact write18_moves o v s
      · exact write1A_moves o v s
    exact hwrite.tail (.finishes _)

/-! ## Host operations (R250) -/

theorem onDevice_moves {f : State → State} {s : State} (hf : Moves s (f s)) : Moves s (onDevice f s) := by
  unfold onDevice
  split
  · exact (Move.finishes _).moves
  · exact hf

/-- A host operation is a chain of moves, or one that is none: a `Reset`, a `SetParity`, or a write to command RAM. -/
theorem hostOp_cases {op : HostOp} {s t : State} (h : hostOp op s = .next t) :
    Moves s t
      ∨ (op = .reset ∧ t = finish .done (resetDevice s))
      ∨ (∃ p, op = .setParity p ∧ t = finish .done (setParity p s))
      ∨ ∃ a n v, op = .cramWrite a n v ∧ t = finish .done (cramStore a n v s) := by
  cases op with
  | exec n =>
    cases h
    exact .inl (onDevice_moves ((idmaStep_moves s).trans (continueExec_moves n _)))
  | regRead addr n =>
    cases h
    exact .inl (onDevice_moves (regRead_moves addr n s))
  | regWrite addr n v =>
    cases h
    exact .inl (onDevice_moves (regWrite_moves addr n v s))
  | reset =>
    cases h
    unfold onDevice
    split
    · exact .inl (Move.finishes _).moves
    · exact .inr (.inl ⟨rfl, rfl⟩)
  | setParity p =>
    cases h
    unfold onDevice
    split
    · exact .inl (Move.finishes _).moves
    · exact .inr (.inr (.inl ⟨p, rfl, rfl⟩))
  | cramRead a n =>
    simp only [hostOp] at h
    split at h <;> cases h
    exact .inl (Move.finishes _).moves
  | cramWrite a n v =>
    simp only [hostOp] at h
    split at h <;> cases h
    exact .inr (.inr (.inr ⟨a, n, v, rfl, rfl⟩))

/-- A host write to command RAM changes nothing else (R264). -/
theorem cramStore_eq (a : Word) (n : CramWidth) (v : Word) (s : State) :
    cramStore a n v s = { s with cram := (cramStore a n v s).cram } := by
  cases n <;> rfl

/-! ## The step -/

/-- A property of the state before a step holds after it, if every move keeps it, the instruction that the step may run gives
it back once the invariant check is made (R106), and the three host operations that are no move keep it: of the one that writes
command RAM it need only be known that it keeps the canonical form. -/
theorem step_induction {P : State → Prop} {s t : State} (h : step s = .next t) (hs : P s)
    (move : ∀ x y, Move x y → P x → P y)
    (instr : ∀ i u, ExecEffect s i u → P (checkInvariant u))
    (reset : s.budget = none → s.inputs.head? = some .reset → ∀ x, P x → P (resetDevice x))
    (parity : ∀ p, s.budget = none → s.inputs.head? = some (.setParity p) → ∀ x, P x → P (setParity p x))
    (cram : ∀ x m, (Memory.wf x.cram → Memory.wf m) → P x → P { x with cram := m }) : P t := by
  obtain ⟨-, -, rfl⟩ | ⟨op, rest, hb, hin, hop⟩ | ⟨b, -, -, rfl⟩ | ⟨b, r, -, -, -, rfl⟩ | ⟨b, i, u, -, -, -, hu, rfl⟩ :=
    step_cases h
  · exact hs
  · have htaken : P { s with inputs := rest } := move _ _ (.takesInputs rest) hs
    obtain hm | ⟨rfl, rfl⟩ | ⟨p, rfl, rfl⟩ | ⟨a, n, v, rfl, rfl⟩ := hostOp_cases hop
    · exact hm.keeps move htaken
    · exact move _ _ (.finishes _) (reset hb (by simp [hin]) _ htaken)
    · exact move _ _ (.finishes _) (parity p hb (by simp [hin]) _ htaken)
    · rw [cramStore_eq]
      exact move _ _ (.finishes _) (cram _ _ (fun hwf => Memory.wf_cramStore hwf a n v) htaken)
  · exact (endExec_moves s).keeps move hs
  · exact (decodeFault_moves r s).keeps move hs
  · exact (afterExecute_moves i _ u).keeps move (instr i u (exec_effect hu))

end Sys2Proof.Machine
end

section
/-! The interrupt controller (R29 to R33, R296 to R298): what a raise writes before it aggregates, completion processing register
by register, and the interrupt invariants move by move. -/

namespace Sys2Proof.Machine

/-! ## What a raise writes (R297) -/

/-- The registers as `IrqRaise(main, sec)` writes them, before it aggregates. -/
def irqRaised (main : BitVec 8) (sec : BitVec 4) (s : State) : State :=
  { s with
    reg15 := s.reg15.set offStatus (s.mainStatus ||| main.setWidth 32)
    reg1A := raiseCause sec 3 (raiseCause sec 2 (raiseCause sec 1 (raiseCause sec 0 s.reg1A))) }

theorem irqRaise_eq (main : BitVec 8) (sec : BitVec 4) (s : State) :
    irqRaise main sec s = aggregate (irqRaised main sec s) := rfl

theorem mainStatus_irqRaised (main : BitVec 8) (sec : BitVec 4) (s : State) :
    (irqRaised main sec s).mainStatus = s.mainStatus ||| main.setWidth 32 := by
  simp [State.mainStatus, State.reg, irqRaised]

theorem cause_irqRaised (main : BitVec 8) (sec : BitVec 4) (s : State) (i : Fin 4) :
    (irqRaised main sec s).cause i = if sec.getLsbD i.val then s.cause i ||| 1 else s.cause i := by
  match i with
  | 0 | 1 | 2 | 3 => simp [State.cause, State.reg, irqRaised, get_raiseCause, offCause]

/-- A raise writes the main status and the causes only. -/
theorem reg_irqRaised_of_not_raised (main : BitVec 8) (sec : BitVec 4) (s : State) {b : Block} {o : Nat}
    (h : ¬ raisedRegister b o) : (irqRaised main sec s).reg b o = s.reg b o := by
  obtain ⟨hstatus, hcause⟩ := not_or.mp h
  cases b with
  | b15 =>
    have ho : ¬ offStatus = o := fun ho => hstatus (by rw [← ho]; rfl)
    simp [State.reg, irqRaised, ho]
  | b18 => rfl
  | b1A =>
    have ho : ∀ i : Fin 4, ¬ offCause i = o := fun i ho => hcause ⟨i, by rw [← ho]; rfl⟩
    simp [State.reg, irqRaised, get_raiseCause, ho]

/-- `Aggregate()` writes the main status only, so no register but those that a raise writes. -/
theorem reg_aggregate_of_not_raised (s : State) {b : Block} {o : Nat} (h : ¬ raisedRegister b o) :
    (aggregate s).reg b o = s.reg b o :=
  reg_aggregate_of_ne s b o fun hbo => h (.inl hbo)

/-! ## Aggregation (R296) -/

theorem aggregated_aggregate (s : State) : Aggregated (aggregate s) := by
  refine ⟨fun i => ?_, ?_⟩
  · rw [aggregate_secStatus, getLsbD_secOfCauses, cause_aggregate]
  · rw [mainStatus_aggregate, mainMask_aggregate, ← summaryStatus_secOfCauses]
    rfl

/-- Bit 7 of the main status stands while a secondary bit does (R298). -/
theorem getLsbD_summaryStatus_of_ne {sec : BitVec 4} (h : sec ≠ 0) (x : Word) :
    (summaryStatus sec x).getLsbD 7 = true := by
  rw [summaryStatus, if_neg h]
  simp

/-- After `Aggregate()` the equations of the interrupt line hold, whatever the registers were. -/
theorem irqConsistent_aggregate (s : State) : IrqConsistent (aggregate s) := by
  obtain ⟨hsec, hline⟩ := aggregated_aggregate s
  refine ⟨hline, hsec, fun h => ?_⟩
  rw [mainStatus_aggregate, ← summaryStatus_secOfCauses]
  exact getLsbD_summaryStatus_of_ne h _

/-! ## Completion processing (R107) -/

/-- The state after the busy bits are cleared, before the completion pair is raised. -/
def busyCleared (s : State) : State := clearBits s.cfg.busy1 (clearBits s.cfg.busy0 s)

theorem complete_eq (s : State) :
    complete s = aggregate (irqRaised s.cfg.cpDoneMain s.cfg.cpDoneSec (busyCleared s)) := rfl

theorem reg_busyCleared (s : State) (b : Block) (o : Nat) :
    (busyCleared s).reg b o = s.reg b o &&& keptByCompletion s.cfg b o := by
  rw [busyCleared, reg_clearBits, reg_clearBits, BitVec.and_assoc, keptByCompletion]

/-- Settles O17: the clearing of the busy bits, the raise and the aggregation, each by what it leaves at every location. -/
theorem completionClearsBusyAndRaises : Obligations.CompletionClearsBusyAndRaises := by
  intro s
  have hstatus : (busyCleared s).mainStatus = s.mainStatus &&& keptByCompletion s.cfg .b15 0x88 := reg_busyCleared s _ _
  have hcause (i : Fin 4) :
      (busyCleared s).cause i = s.cause i &&& keptByCompletion s.cfg .b1A (0x08 + 4 * i.val) := reg_busyCleared s _ _
  refine ⟨?_, fun i => ?_, fun b o h => ?_, aggregated_aggregate _, rfl⟩
  · rw [complete_eq, mainStatus_aggregate, summaryBit_aggregate, mainStatus_irqRaised, hstatus]
  · rw [complete_eq, cause_aggregate, cause_irqRaised, hcause]
  · rw [complete_eq, reg_aggregate_of_not_raised _ h, reg_irqRaised_of_not_raised _ _ _ h, reg_busyCleared]

/-! ## The invariants, move by move (R29, R31, R298) -/

/-- A store elsewhere leaves the main status and the causes as they were. -/
theorem mainStatus_setReg {b : Block} {o : Nat} (v : Word) (s : State) (h : ¬ raisedRegister b o) :
    (setReg b o v s).mainStatus = s.mainStatus := by
  rw [State.mainStatus, reg_setReg, if_neg fun hbo => h (.inl (by rw [hbo.1, hbo.2]; rfl))]
  rfl

theorem cause_setReg {b : Block} {o : Nat} (v : Word) (s : State) (h : ¬ raisedRegister b o) (i : Fin 4) :
    (setReg b o v s).cause i = s.cause i := by
  rw [State.cause, reg_setReg, if_neg fun hbo => h (.inr ⟨i, by rw [hbo.1, hbo.2]; rfl⟩)]
  rfl

theorem mainMask_setReg {b : Block} {o : Nat} (v : Word) (s : State) (h : (b, o) ≠ (.b15, 0x84)) :
    (setReg b o v s).mainMask = s.mainMask := by
  rw [State.mainMask, reg_setReg, if_neg fun hbo => h (by rw [hbo.1, hbo.2]; rfl)]
  rfl

/-- A store outside the interrupt registers leaves the equations of the line as they were. -/
theorem irqConsistent_setReg {s : State} {b : Block} {o : Nat} (v : Word) (hmask : (b, o) ≠ (.b15, 0x84))
    (hquiet : ¬ raisedRegister b o) (h : IrqConsistent s) : IrqConsistent (setReg b o v s) := by
  simpa [IrqConsistent, mainStatus_setReg v s hquiet, cause_setReg v s hquiet, mainMask_setReg v s hmask] using h

/-- Every move keeps the equations of the interrupt line: it aggregates last, or writes no interrupt register. -/
theorem irqConsistent_move {s t : State} (hm : Move s t) (hwf : s.cfg.wf = true) (h : IrqConsistent s) :
    IrqConsistent t := by
  cases hm with
  | stores b o v hquiet => exact irqConsistent_setReg v (hquiet hwf).1 (hquiet hwf).2 h
  | masks | clears | raisesIrq | completes => exact irqConsistent_aggregate _
  | faults | begins | beginFaults | draws | takesBudget | takesInputs | finishes => exact h

/-- The bits that rules R29 and R31 hold at 0 stay so when the interrupt registers only lose bits. -/
theorem irqBitsConfined_of_and {s t : State} (h : IrqBitsConfined s)
    (hstatus : ∃ k, t.mainStatus = s.mainStatus &&& k) (hcause : ∀ i, ∃ k, t.cause i = s.cause i &&& k) :
    IrqBitsConfined t := by
  have hand {x m : Word} (k : Word) (hx : x &&& m = 0) : x &&& k &&& m = 0 := by
    rw [BitVec.and_assoc, BitVec.and_comm k, ← BitVec.and_assoc, hx]
    exact BitVec.zero_and
  obtain ⟨hs, hc⟩ := h
  refine ⟨?_, fun i => ?_⟩
  · obtain ⟨k, hk⟩ := hstatus
    rw [hk, hand k hs]
  · obtain ⟨k, hk⟩ := hcause i
    rw [hk, hand k (hc i)]

/-- A register unchanged, as one that loses no bit. -/
theorem eq_and_of_eq {x y : Word} (h : x = y) : ∃ k, x = y &&& k :=
  ⟨BitVec.allOnes 32, by rw [h, BitVec.and_allOnes]⟩

theorem irqBitsConfined_setReg {s : State} {b : Block} {o : Nat} (v : Word) (hquiet : ¬ raisedRegister b o)
    (h : IrqBitsConfined s) : IrqBitsConfined (setReg b o v s) := by
  simpa [IrqBitsConfined, mainStatus_setReg v s hquiet, cause_setReg v s hquiet] using h

/-- Clearing bits of one register clears bits of the interrupt registers, or none. -/
theorem irqBitsConfined_setReg_and {s : State} (b : Block) (o : Nat) (k : Word) (h : IrqBitsConfined s) :
    IrqBitsConfined (setReg b o (s.reg b o &&& k) s) := by
  have hreg (c : Block) (p : Nat) : ∃ k', (setReg b o (s.reg b o &&& k) s).reg c p = s.reg c p &&& k' := by
    rw [reg_setReg]
    split
    · next hbo =>
      obtain ⟨rfl, rfl⟩ := hbo
      exact ⟨k, rfl⟩
    · exact eq_and_of_eq rfl
  exact irqBitsConfined_of_and h (hreg _ _) fun _ => hreg _ _

/-- `Aggregate()` sets no bit above bit 7 of the main status, and none of a cause (R296). -/
theorem irqBitsConfined_aggregate {s : State} (h : IrqBitsConfined s) : IrqBitsConfined (aggregate s) := by
  obtain ⟨hs, hc⟩ := h
  refine ⟨?_, fun i => by rw [cause_aggregate, hc]⟩
  have hbit : summaryBit s &&& 0xFFFFFF00 = 0 := by
    unfold summaryBit
    split <;> rfl
  rw [mainStatus_aggregate, BitVec.and_or_distrib_right, hs, hbit]
  rfl

/-- A byte reaches no bit above bit 7 of a word. -/
theorem setWidth_and_high (x : BitVec 8) : x.setWidth 32 &&& 0xFFFFFF00 = 0 := by
  apply BitVec.eq_of_getLsbD_eq
  intro i hi
  by_cases h : i < 8
  · interval_cases i <;> simp
  · simp [BitVec.getLsbD_of_ge x i (by omega)]

/-- A raise sets bits 7:0 of the main status and bit 0 of a cause only (R297). -/
theorem irqBitsConfined_irqRaise {s : State} (main : BitVec 8) (sec : BitVec 4) (h : IrqBitsConfined s) :
    IrqBitsConfined (irqRaise main sec s) := by
  obtain ⟨hs, hc⟩ := h
  rw [irqRaise_eq]
  refine irqBitsConfined_aggregate ⟨?_, fun i => ?_⟩
  · rw [mainStatus_irqRaised, BitVec.and_or_distrib_right, hs, setWidth_and_high]
    rfl
  · rw [cause_irqRaised]
    split
    · rw [BitVec.and_or_distrib_right, hc]
      rfl
    · exact hc i

/-- Every move keeps the bits that rules R29 and R31 hold at 0. -/
theorem irqBitsConfined_move {s t : State} (hm : Move s t) (hwf : s.cfg.wf = true) (h : IrqBitsConfined s) :
    IrqBitsConfined t := by
  cases hm with
  | stores b o v hquiet => exact irqBitsConfined_setReg v (hquiet hwf).2 h
  | masks v => exact irqBitsConfined_aggregate (irqBitsConfined_setReg v (by simp [raisedRegister, offMask]) h)
  | clears b o k => exact irqBitsConfined_aggregate (irqBitsConfined_setReg_and b o k h)
  | raisesIrq main sec => exact irqBitsConfined_irqRaise main sec h
  | completes =>
    exact irqBitsConfined_irqRaise _ _ (irqBitsConfined_setReg_and _ _ _ (irqBitsConfined_setReg_and _ _ _ h))
  | faults | begins | beginFaults | draws | takesBudget | takesInputs | finishes => exact h

end Sys2Proof.Machine
end

section
/-! What the meaning of an instruction leaves as it was (R23, R24, R25, R49, R65). -/

namespace Sys2Proof.Machine

/-- Settles O32, over the effects an instruction can have: none of them writes these fields. -/
theorem noInstructionChangesARegister : Obligations.NoInstructionChangesARegister := by
  intro i s t h
  cases exec_effect h <;> exact ⟨rfl, rfl, rfl, rfl, rfl, rfl, rfl, rfl, rfl, rfl, rfl⟩

/-- The effects of CALL and RET write the active stack pointer, the others none (R23). -/
theorem ExecEffect.sp {i : Instr} {s t : State} (h : ExecEffect s i t) :
    t.sp = s.sp ∨ (i.mnemonic = .CALL ∨ i.mnemonic = .RET) ∧ ∃ v, t.sp = s.sp.set s.parity v := by
  cases h with
  | calls w1 | callFaults w1 => exact .inr ⟨.inl rfl, _, rfl⟩
  | returns => exact .inr ⟨.inr rfl, _, rfl⟩
  | _ => exact .inl rfl

/-- KILL stops the CP, and no other instruction stops or starts it (R25, R124). -/
theorem exec_running {i : Instr} {s t : State} (h : exec i s = .next t) : t.running = (s.running && !i.isTerminal) := by
  by_cases hi : i = .kill
  · subst hi
    cases h
    simp [Instr.isTerminal]
  · have hrun : t.running = s.running := by
      cases exec_effect h with
      | kills => exact absurd rfl hi
      | _ => rfl
    simp [hrun, Instr.isTerminal, hi]

/-- Settles O34: the stack pointers by the effects of CALL and RET, the running flag by that of KILL. -/
theorem stackAndRunningChangeOnlyByTheirInstructions : Obligations.StackAndRunningChangeOnlyByTheirInstructions := by
  intro i s t h
  refine ⟨fun p hp => ?_, fun hcall hret => ?_, exec_running h⟩
  · obtain hsp | ⟨-, v, hsp⟩ := (exec_effect h).sp
    · rw [hsp]
    · have hne : s.parity.val ≠ p.val := fun hval => hp (Fin.ext hval.symm)
      rw [hsp]
      simp [Vector.get_eq_getElem, Vector.getElem_set_ne, hne]
  · obtain hsp | ⟨hi | hi, -⟩ := (exec_effect h).sp
    · exact hsp
    · exact absurd hi hcall
    · exact absurd hi hret

/-- Settles O35: an append is the effect of Vertex 3f only, and an emit of Tex Coord only (R191, R192). -/
theorem onlyVertexInstructionsUseTheAssembler : Obligations.OnlyVertexInstructionsUseTheAssembler := by
  intro i s t h
  cases exec_effect h with
  | appends _ p hi => exact ⟨fun hno => absurd hi hno, fun _ => rfl⟩
  | emits _ x hi => exact ⟨fun _ => ⟨rfl, rfl⟩, fun hno => absurd hi hno⟩
  | _ => exact ⟨fun _ => ⟨rfl, rfl⟩, fun _ => rfl⟩

end Sys2Proof.Machine
end

section
/-! The invariants of the step (R22, R23, R24, R27 to R29, R31, R42 to R48, R60, R298): each is kept by every move and by the
instructions' effects, and so by the step. -/

namespace Sys2Proof.Machine

/-- A property that the moves keep is kept by the invariant check. -/
theorem keeps_checkInvariant {P : State → Prop} (move : ∀ x y, Move x y → P x → P y) {s : State} (h : P s) :
    P (checkInvariant s) :=
  (checkInvariant_moves s).keeps move h

/-! ## The interrupt controller -/

/-- The interrupt invariants read the registers, the secondary status and the line only. -/
theorem irqInvariants_congr {s t : State} (h15 : t.reg15 = s.reg15) (h1A : t.reg1A = s.reg1A)
    (hsec : t.secStatus = s.secStatus) (hline : t.irqLine = s.irqLine) :
    (IrqConsistent t ↔ IrqConsistent s) ∧ (IrqBitsConfined t ↔ IrqBitsConfined s) := by
  simp [IrqConsistent, IrqBitsConfined, State.mainStatus, State.mainMask, State.cause, State.reg, h15, h1A, hsec, hline]

/-- What O42 says of a state that a step from `s` reaches, with the constraint of rule R9 that the moves need. -/
def KeepsInterrupts (s t : State) : Prop :=
  t.cfg.wf = true ∧ (IrqConsistent s → IrqConsistent t) ∧ (IrqBitsConfined s → IrqBitsConfined t)

theorem keepsInterrupts_move {s x y : State} (hm : Move x y) (h : KeepsInterrupts s x) : KeepsInterrupts s y := by
  obtain ⟨hwf, hline, hbits⟩ := h
  exact ⟨hm.cfg_eq ▸ hwf, fun hs => irqConsistent_move hm hwf (hline hs), fun hs => irqBitsConfined_move hm hwf (hbits hs)⟩

/-- A change that leaves the registers and the line keeps the invariants. -/
theorem keepsInterrupts_of_eq {s x y : State} (hcfg : y.cfg = x.cfg) (h15 : y.reg15 = x.reg15) (h1A : y.reg1A = x.reg1A)
    (hsec : y.secStatus = x.secStatus) (hline : y.irqLine = x.irqLine) (h : KeepsInterrupts s x) :
    KeepsInterrupts s y := by
  obtain ⟨hirq, hbits⟩ := irqInvariants_congr h15 h1A hsec hline
  simpa [KeepsInterrupts, hcfg, hirq, hbits] using h

/-- Settles O42, by the moves; an instruction's meaning changes no register. -/
theorem stepKeepsInterruptInvariants : Obligations.StepKeepsInterruptInvariants := by
  intro s t hwf h
  have hs : KeepsInterrupts s s := ⟨hwf, id, id⟩
  refine (step_induction (P := KeepsInterrupts s) h hs (fun _ _ => keepsInterrupts_move) (fun i u hu => ?instr)
    (fun _ _ x hx => ?reset) (fun p _ _ x hx => ?parity) (fun x m _ hx => ?cram)).2
  case instr =>
    refine keeps_checkInvariant (fun _ _ => keepsInterrupts_move) ?_
    cases hu <;> exact keepsInterrupts_of_eq rfl rfl rfl rfl rfl hs
  case reset => exact ⟨hx.1, fun _ => irqConsistent_reset, fun _ => irqBitsConfined_reset⟩
  case parity | cram => exact keepsInterrupts_of_eq rfl rfl rfl rfl rfl hx

/-! ## The pc and the stack pointers (R22, R23, R106) -/

theorem codeAddressesHold_of_fault {s : State} (h : s.fault.isSome = true) : CodeAddressesHold s := by
  intro hnone
  simp [hnone] at h

/-- After the invariant check the addresses hold, whatever they were: else the check has faulted (R106). -/
theorem codeAddressesHold_checkInvariant (s : State) : CodeAddressesHold (checkInvariant s) := by
  obtain ⟨h, hpc, hsp⟩ | ⟨r, -, h⟩ := checkInvariant_cases s <;> rw [h]
  · exact fun _ _ => ⟨hpc, hsp⟩
  · exact codeAddressesHold_of_fault (raise_fault_isSome s r)

theorem codeAddressesHold_move {s t : State} (hm : Move s t) (h : CodeAddressesHold s) : CodeAddressesHold t := by
  cases hm with
  | faults r | beginFaults r => exact codeAddressesHold_of_fault (raise_fault_isSome _ r)
  | begins hpc hsp => exact fun _ _ => ⟨hpc, hsp⟩
  | stores | masks | clears | raisesIrq | completes | draws | takesBudget | takesInputs | finishes => exact h

/-- Settles O43: every instruction is followed by the invariant check, and only `begin()` among the moves writes an address or
starts the CP. -/
theorem stepKeepsCodeAddresses : Obligations.StepKeepsCodeAddresses := by
  intro s t hs h
  refine step_induction h hs (fun _ _ => codeAddressesHold_move) (fun i u _ => codeAddressesHold_checkInvariant u)
    (fun _ _ _ _ => ?reset) (fun _ _ _ _ hx => hx) (fun _ _ _ hx => hx)
  case reset =>
    intro _ hrun
    cases hrun

/-! ## Storage (R28, R42, R60) -/

theorem storageCanonical_setReg {s : State} (h : StorageCanonical s) (b : Block) (o : Nat) (v : Word) :
    StorageCanonical (setReg b o v s) := by
  obtain ⟨hcram, h15, h18, h1A, htables⟩ := h
  cases b with
  | b15 => exact ⟨hcram, RegBlock.wf_set h15 o v, h18, h1A, htables⟩
  | b18 => exact ⟨hcram, h15, RegBlock.wf_set h18 o v, h1A, htables⟩
  | b1A => exact ⟨hcram, h15, h18, RegBlock.wf_set h1A o v, htables⟩

theorem storageCanonical_aggregate {s : State} (h : StorageCanonical s) : StorageCanonical (aggregate s) := by
  obtain ⟨hcram, h15, h18, h1A, htables⟩ := h
  exact ⟨hcram, RegBlock.wf_set h15 _ _, h18, h1A, htables⟩

theorem RegBlock.wf_raiseCause {l : RegBlock} (h : RegBlock.wf l) (sec : BitVec 4) (i : Fin 4) :
    RegBlock.wf (raiseCause sec i l) := by
  unfold raiseCause
  split
  · exact RegBlock.wf_set h _ _
  · exact h

theorem storageCanonical_irqRaise {s : State} (h : StorageCanonical s) (main : BitVec 8) (sec : BitVec 4) :
    StorageCanonical (irqRaise main sec s) := by
  obtain ⟨hcram, h15, h18, h1A, htables⟩ := h
  have hcauses : RegBlock.wf (irqRaised main sec s).reg1A :=
    RegBlock.wf_raiseCause (RegBlock.wf_raiseCause (RegBlock.wf_raiseCause (RegBlock.wf_raiseCause h1A _ _) _ _) _ _) _ _
  rw [irqRaise_eq]
  exact storageCanonical_aggregate ⟨hcram, RegBlock.wf_set h15 _ _, h18, hcauses, htables⟩

theorem storageCanonical_move {s t : State} (hm : Move s t) (h : StorageCanonical s) : StorageCanonical t := by
  cases hm with
  | stores b o v => exact storageCanonical_setReg h b o v
  | masks | clears => exact storageCanonical_aggregate (storageCanonical_setReg h _ _ _)
  | raisesIrq => exact storageCanonical_irqRaise h _ _
  | completes =>
    exact storageCanonical_irqRaise (storageCanonical_setReg (storageCanonical_setReg h _ _ _) _ _ _) _ _
  | faults | begins | beginFaults | draws | takesBudget | takesInputs | finishes => exact h

/-- A Viewport Commit copies into a slot that its 3-bit field names, below the bound of 8; CALL stores a word of command RAM; no
other instruction writes storage (R64, R150). -/
theorem ExecEffect.storageCanonical {i : Instr} {s t : State} (he : ExecEffect s i t) (h : StorageCanonical s) :
    StorageCanonical t := by
  obtain ⟨hcram, h15, h18, h1A, hviewports, htables⟩ := h
  cases he with
  | calls | callFaults => exact ⟨Memory.wf_memWrite hcram _ _, h15, h18, h1A, hviewports, htables⟩
  | commitsViewport n =>
    have hn : n.toNat < Category.viewport.bound := n.isLt
    exact ⟨hcram, h15, h18, h1A, Table.wf_put hviewports _ hn _, htables⟩
  | _ => exact ⟨hcram, h15, h18, h1A, hviewports, htables⟩

/-- Settles O44, by the moves and the effects of CALL and Viewport Commit. -/
theorem stepKeepsStorageCanonical : Obligations.StepKeepsStorageCanonical := by
  intro s t hs h
  refine step_induction h hs (fun _ _ => storageCanonical_move)
    (fun i u hu => keeps_checkInvariant (fun _ _ => storageCanonical_move) (hu.storageCanonical hs))
    (fun _ _ x hx => ?reset) (fun _ _ _ x hx => hx) (fun _ _ hm ⟨hcram, hrest⟩ => ⟨hm hcram, hrest⟩)
  case reset =>
    obtain ⟨-, hempty⟩ := storageCanonical_reset
    exact ⟨hx.1, hempty⟩

/-! ## The tables that no instruction writes (R44 to R48, R150) -/

/-- The tables, scratch objects and viewport slot 0 are those of `s`. -/
def SameTables (s t : State) : Prop :=
  t.modelviews = s.modelviews ∧ t.materials = s.materials ∧ t.texheads = s.texheads ∧ t.lights = s.lights
    ∧ t.lightsets = s.lightsets ∧ t.matScratch = s.matScratch ∧ t.thScratch = s.thScratch ∧ t.ltScratch = s.ltScratch
    ∧ t.lsScratch = s.lsScratch ∧ Table.get t.viewports 0 = Table.get s.viewports 0

theorem SameTables.refl (s : State) : SameTables s s := ⟨rfl, rfl, rfl, rfl, rfl, rfl, rfl, rfl, rfl, rfl⟩

theorem sameTables_move {s x y : State} (hm : Move x y) (h : SameTables s x) : SameTables s y := by
  cases hm <;> exact h

/-- Viewport Commit is the only instruction that writes a table, and never at slot 0 (R150). -/
theorem ExecEffect.sameTables {i : Instr} {s t : State} (he : ExecEffect s i t) : SameTables s t := by
  cases he with
  | commitsViewport n hn =>
    have hslot : n.toNat ≠ 0 := fun h => hn (BitVec.eq_of_toNat_eq h)
    refine ⟨rfl, rfl, rfl, rfl, rfl, rfl, rfl, rfl, rfl, ?_⟩
    exact (Table.get_put s.viewports n.toNat 0 _).trans (if_neg hslot)
  | _ => exact SameTables.refl s

/-- Settles O36, by the moves and the effect of Viewport Commit. -/
theorem tablesChangeOnlyByReset : Obligations.TablesChangeOnlyByReset := by
  intro s t h hreset
  refine step_induction (P := SameTables s) h (.refl s) (fun _ _ => sameTables_move)
    (fun i u hu => keeps_checkInvariant (fun _ _ => sameTables_move) hu.sameTables)
    (fun hb hop => absurd ⟨hb, hop⟩ hreset) (fun _ _ _ _ hx => hx) (fun _ _ _ hx => hx)

/-! ## The parity (R24) -/

/-- The parity is that of `s`, or the next operation from `s` resets or sets it. -/
def ParityAccounted (s t : State) : Prop :=
  t.parity = s.parity
    ∨ s.budget = none ∧ (s.inputs.head? = some .reset ∨ s.inputs.head? = some (.setParity t.parity))

theorem parityAccounted_of_eq {s x y : State} (hp : y.parity = x.parity) (h : ParityAccounted s x) :
    ParityAccounted s y := by
  rwa [ParityAccounted, hp]

theorem parityAccounted_move {s x y : State} (hm : Move x y) (h : ParityAccounted s x) : ParityAccounted s y := by
  cases hm <;> exact parityAccounted_of_eq rfl h

/-- Settles O38: no move and no instruction writes the parity. -/
theorem parityChangesOnlyByTheHost : Obligations.ParityChangesOnlyByTheHost := by
  intro s t h hne
  have hs : ParityAccounted s s := .inl rfl
  refine (step_induction (P := ParityAccounted s) h hs (fun _ _ => parityAccounted_move) (fun i u hu => ?instr)
    (fun hb hop _ _ => .inr ⟨hb, .inl hop⟩) (fun p hb hop _ _ => .inr ⟨hb, .inr hop⟩)
    (fun _ _ _ hx => parityAccounted_of_eq rfl hx)).resolve_left hne
  case instr =>
    refine keeps_checkInvariant (fun _ _ => parityAccounted_move) ?_
    cases hu <;> exact hs

/-! ## Faults (R27, R294) -/

theorem fault_move {r : FaultReason} {s t : State} (hm : Move s t) (h : s.fault = some r) : t.fault = some r := by
  cases hm with
  | faults q | beginFaults q => exact raise_fault_of_some _ q r h
  | stores | masks | clears | raisesIrq | completes | begins | draws | takesBudget | takesInputs | finishes => exact h

/-- Settles O39: a raise keeps the first fault, and nothing else writes it, a Reset included. -/
theorem faultIsSticky : Obligations.FaultIsSticky := by
  intro s t r h hs
  refine step_induction h hs (fun _ _ => fault_move) (fun i u hu => ?instr)
    (fun _ _ _ hx => hx) (fun _ _ _ _ hx => hx) (fun _ _ _ hx => hx)
  case instr =>
    refine keeps_checkInvariant (fun _ _ => fault_move) ?_
    cases hu with
    | faults _ q => exact raise_fault_of_some _ q r hs
    | callFaults w1 => exact raise_fault_of_some _ _ r hs
    | _ => exact hs

end Sys2Proof.Machine
end

section
/-! The budget of an `Exec` (R26, R101), and the register file as storage (R28, R251 to R255, R293). -/

namespace Sys2Proof.Machine

/-! ## The budget (R26, R101) -/

/-- What a turn of `Exec`'s loop makes of the inputs, the budget and the results of `s`, `b` units being left after it. -/
def TurnOf (b : Nat) (s t : State) : Prop :=
  t.inputs = s.inputs ∧ (t.budget = none ∨ t.budget = some b) ∧ BudgetHolds t
    ∧ (t.budget = none → t.results = s.results ++ [.done]) ∧ (t.budget ≠ none → t.results = s.results)

/-- The end of an `Exec` is the last of its turns. -/
theorem turnOf_endExec (b : Nat) (s : State) : TurnOf b s (endExec s) := by
  simp [TurnOf, BudgetHolds]

/-- The loop's test ends the `Exec`, or leaves it with budget on a running, unfaulted CP. -/
theorem turnOf_continueExec (b : Nat) (s : State) : TurnOf b s (continueExec b s) := by
  obtain ⟨h, hfault, hrun, hb⟩ | h := continueExec_cases b s <;> rw [h]
  · simp [TurnOf, BudgetHolds, hfault, hrun, hb]
  · exact turnOf_endExec b s

theorem TurnOf.of_eq {b : Nat} {s s' t : State} (hin : s'.inputs = s.inputs) (hres : s'.results = s.results)
    (h : TurnOf b s' t) : TurnOf b s t := by
  rwa [TurnOf, hin, hres] at h

theorem checkInvariant_inputs_results (s : State) :
    (checkInvariant s).inputs = s.inputs ∧ (checkInvariant s).results = s.results := by
  obtain ⟨h, -⟩ | ⟨r, -, h⟩ := checkInvariant_cases s <;> rw [h] <;> exact ⟨rfl, rfl⟩

/-- The invariant check and completion processing touch neither the inputs nor the results. -/
theorem turnOf_afterExecute (i : Instr) (b : Nat) (s : State) : TurnOf b s (afterExecute i b s) := by
  obtain ⟨hin, hres⟩ := checkInvariant_inputs_results s
  unfold afterExecute
  dsimp only
  split
  · exact (turnOf_continueExec b _).of_eq (by simpa using hin) (by simpa using hres)
  · exact (turnOf_continueExec b _).of_eq hin hres

/-- Settles O46: inside an `Exec` a step is an instruction, or one that does not decode. -/
theorem eachInstructionCostsOneUnit : Obligations.EachInstructionCostsOneUnit := by
  rintro s t b ⟨hb, hrun, hfault⟩ h
  have hloop : loopRuns (b + 1) s = true := (loopRuns_iff _ _).mpr ⟨hfault, hrun, by simp⟩
  obtain ⟨hnone, -⟩ | ⟨op, rest, hnone, -⟩ | ⟨b', hb', hstop, -⟩ | ⟨b', r, -, -, -, rfl⟩ | ⟨b', i, u, hb', -, -, hu, rfl⟩ :=
    step_cases h
  · cases hb.symm.trans hnone
  · cases hb.symm.trans hnone
  · cases hb.symm.trans hb'
    cases hloop.symm.trans hstop
  · exact (turnOf_endExec b (raise r s)).of_eq rfl rfl
  · cases hb.symm.trans hb'
    obtain ⟨-, -, -, -, -, -, -, -, -, hin, hres⟩ := noInstructionChangesARegister i s u hu
    exact (turnOf_afterExecute i b u).of_eq hin hres

/-! ## Bus decode (R28, R254, R293) -/

/-- An access names a block and an offset exactly when it is valid (R254). -/
theorem busDecode_eq_some_iff (c : Cfg) (addr : Word) (n : Nat) (b : Block) (o : Nat) :
    busDecode c addr n = some (b, o) ↔
      classify c addr = some b ∧ o = (addr &&& (blockSize c b - 1)).toNat ∧ n = 4 ∧ o % 4 = 0
        ∧ declared c b o = true := by
  unfold busDecode
  cases classify c addr with
  | none => simp
  | some b' =>
    dsimp only
    constructor
    · intro h
      split at h
      · next hok =>
        cases h
        exact ⟨rfl, rfl, hok⟩
      · cases h
    · rintro ⟨hb, rfl, hok⟩
      cases hb
      exact if_pos hok

/-- A host operation that is waiting on an unfaulted device is the next step (R250). -/
theorem HostCalls.step_eq {s : State} {op : HostOp} {rest : List HostOp} (h : HostCalls s op rest) :
    step s = hostOp op { s with inputs := rest } := by
  obtain ⟨hb, -, hin⟩ := h
  rw [step_between s hb, hostStep_op s hin]

theorem HostCalls.unfaulted {s : State} {op : HostOp} {rest : List HostOp} (h : HostCalls s op rest) : s.fault = none := by
  obtain ⟨-, hfault, -⟩ := h
  exact hfault

theorem HostCalls.step_regRead {s : State} {addr : Word} {n : Nat} {rest : List HostOp}
    (h : HostCalls s (.regRead addr n) rest) : step s = .next (regRead addr n { s with inputs := rest }) :=
  h.step_eq.trans (congrArg Host.Outcome.next (onDevice_unfaulted _ _ h.unfaulted))

theorem HostCalls.step_regWrite {s : State} {addr v : Word} {n : Nat} {rest : List HostOp}
    (h : HostCalls s (.regWrite addr n v) rest) : step s = .next (regWrite addr n v { s with inputs := rest }) :=
  h.step_eq.trans (congrArg Host.Outcome.next (onDevice_unfaulted _ _ h.unfaulted))

/-- Settles O48: the decode by its cases, the refused accesses by the first branch of `regRead` and `regWrite`. -/
theorem invalidAccessChangesNothing : Obligations.InvalidAccessChangesNothing := by
  refine ⟨fun c addr n b o => ?_, fun s addr v n rest op h hop hbus => ?_⟩
  · rw [busDecode_eq_some_iff]
    cases b <;> simp [declared, or_assoc]
  · have hnone : busDecode s.cfg addr n = none := Option.eq_none_iff_forall_ne_some.mpr fun p => hbus p.1 p.2
    obtain rfl | rfl := hop
    · rw [h.step_regRead]
      simp [regRead, finish, hnone]
    · rw [h.step_regWrite]
      simp [regWrite, finish, hnone]

/-! ## Plain storage (R255) -/

/-- A write to plain storage stores the word, with no further effect (R252, R255). -/
theorem writeEffect_plain {b : Block} {o : Nat} {s : State} (v : Word) (h : plainRegister s.cfg b o = true) :
    writeEffect b o v s = setReg b o v s := by
  cases b with
  | b15 =>
    simp only [plainRegister, decide_eq_true_eq] at h
    simp [writeEffect, write15, offMask, offStatus, h]
  | b18 =>
    simp only [plainRegister, decide_eq_true_eq] at h
    simp [writeEffect, write18, h]
  | b1A =>
    simp only [plainRegister, decide_eq_true_eq, List.mem_cons, List.not_mem_nil, or_false, not_or] at h
    simp [writeEffect, write1A, causeAt, offSecStatus, offBusyControl, h]

/-- A read of a location that is none of the constant, the secondary status and the "SEGA" word gives the stored word (R251). -/
theorem readValue_stored {b : Block} {o : Nat} {s : State} (hid : (b, o) ≠ (.b18, 0)) (hsec : (b, o) ≠ (.b1A, 0x18))
    (hsega : isSegaId s.cfg b o = false) : readValue s b o = s.reg b o := by
  rw [readValue, if_neg fun h => hid (by rw [h.1, h.2]), if_neg fun h => hsec (by rw [h.1, h.2]; rfl), hsega]
  rfl

/-- A read of a location that `READ_CLEAR` does not list changes nothing (R253). -/
theorem readEffect_of_unlisted {b : Block} {o : Nat} {s : State}
    (h : ∀ r ∈ s.cfg.readClear, (r.block, r.offset) ≠ (b, o)) : readEffect b o s = s := by
  have hnone : (s.cfg.readClear.find? fun r => decide (r.block = b) && decide (r.offset = o)) = none := by
    simpa [List.find?_eq_none] using h
  rw [readEffect, hnone]

/-- A write access to plain storage answers `ok` (R252). -/
theorem regWrite_plain {s : State} {addr : Word} {n : Nat} {b : Block} {o : Nat} (v : Word)
    (hbus : busDecode s.cfg addr n = some (b, o)) (hplain : plainRegister s.cfg b o = true) (hfault : s.fault = none) :
    regWrite addr n v s = finish .ok (setReg b o v s) := by
  simp [regWrite, hbus, writeEffect_plain v hplain, writeResult, hfault]

/-- A read access to a stored register answers its word and does nothing else (R251). -/
theorem regRead_stored {s : State} {addr : Word} {n : Nat} {b : Block} {o : Nat}
    (hbus : busDecode s.cfg addr n = some (b, o)) (hid : (b, o) ≠ (.b18, 0)) (hsec : (b, o) ≠ (.b1A, 0x18))
    (hsega : (b, o) ≠ (.b1A, s.cfg.offSegaId)) (hclear : ∀ r ∈ s.cfg.readClear, (r.block, r.offset) ≠ (b, o)) :
    regRead addr n s = finish (.value (s.reg b o)) s := by
  have hseg : isSegaId s.cfg b o = false := by simpa [isSegaId] using hsega
  simp [regRead, hbus, hseg, readValue_stored hid hsec hseg, readEffect_of_unlisted hclear]

/-- Settles O49, by what a write to plain storage and a read of a stored register are. -/
theorem plainStorageReadsBack : Obligations.PlainStorageReadsBack := by
  intro s addr v b o rest hbus
  refine ⟨fun hplain h => ?write, fun hid hsec hsega h hclear => ?read, rfl, rfl, fun _ => rfl⟩
  case write =>
    have hwrite : regWrite addr 4 v { s with inputs := rest } = finish .ok (setReg b o v { s with inputs := rest }) :=
      regWrite_plain v hbus hplain h.unfaulted
    refine ⟨_, h.step_regWrite.trans (congrArg _ hwrite), ?_, fun b' o' hne => ?_, rfl⟩
    · exact (reg_setReg _ _ _ _ _ _).trans (if_pos ⟨rfl, rfl⟩)
    · exact (reg_setReg _ _ _ _ _ _).trans (if_neg fun heq => hne (by rw [heq.1, heq.2]))
  case read =>
    have hread : regRead addr 4 { s with inputs := rest } = finish (.value (s.reg b o)) { s with inputs := rest } :=
      regRead_stored hbus hid hsec hsega hclear
    exact h.step_regRead.trans (congrArg _ hread)

end Sys2Proof.Machine
end

section
/-! Command RAM (R60, R61, R64, R122, R264): what every address reads after a byte, a half word or a word is stored, and from
that what an instruction and what a host access leave there. -/

namespace Sys2Proof.Machine

/-! ## Bytes stored and read (R60, R61) -/

/-- What every address reads after a byte is stored. -/
theorem readByte_storeByte (s : State) (a : Word) (b : Byte) (x : Word) :
    ({ s with cram := storeByte s.cfg s.cram a b } : State).readByte x
      = if storageLoc s.cfg a = storageLoc s.cfg x then b else s.readByte x := by
  simp only [State.readByte, byteAt_eq, lookupKey_storeByte]
  split <;> rfl

/-- An address with none of the locations of a stored word reads as before. -/
theorem readByte_memWrite_of_notMem {s : State} {a x : Word} (v : Word)
    (h : storageLoc s.cfg x ∉ wordLocations s.cfg a) : (memWrite a v s).readByte x = s.readByte x := by
  simp only [wordLocations, List.mem_cons, List.not_mem_nil, or_false, not_or] at h
  obtain ⟨h0, h1, h2, h3⟩ := h
  exact byteAt_memWrite_of_ne s a v _ (Ne.symm h0) (Ne.symm h1) (Ne.symm h2) (Ne.symm h3)

/-- Appended bit vectors are digits: the right one is below the left one, which no carry reaches. -/
theorem toNat_append_eq_add {n m : Nat} (x : BitVec n) (y : BitVec m) :
    (x ++ y).toNat = x.toNat * 2 ^ m + y.toNat := by
  rw [BitVec.toNat_append, ← Nat.shiftLeft_add_eq_or_of_lt y.isLt, Nat.shiftLeft_eq]

/-- The decided byte order: the lowest address is the least significant byte (R61). -/
theorem join_little_toNat (b0 b1 b2 b3 : Byte) :
    (Endian.little.join b0 b1 b2 b3).toNat
      = b0.toNat + b1.toNat * 2 ^ 8 + b2.toNat * 2 ^ 16 + b3.toNat * 2 ^ 24 := by
  have hjoin : (Endian.little.join b0 b1 b2 b3).toNat
      = ((b3.toNat * 2 ^ 8 + b2.toNat) * 2 ^ 8 + b1.toNat) * 2 ^ 8 + b0.toNat := by
    rw [← toNat_append_eq_add, ← toNat_append_eq_add, ← toNat_append_eq_add]
    rfl
  omega

/-! ## What an instruction stores (R64, R122) -/

/-- CALL pushes and then jumps or raises, so it leaves command RAM as the push does (R122, R302). -/
theorem execCall_cases {w1 : Word} {s t : State} (h : exec (.call w1) s = .next t) :
    t = setPc (targetOf w1) (pushCall s) ∨ t = raise (.targetOutOfWindow .CALL (targetOf w1) s.pc) (pushCall s) := by
  simp only [exec, execCall] at h
  split at h <;> cases h
  · exact .inl rfl
  · exact .inr rfl

/-- Command RAM after a CALL reads as it does after the word at the active stack pointer is written. -/
theorem execCall_reads {w1 : Word} {s t : State} (h : exec (.call w1) s = .next t) :
    t.readByte = (memWrite s.activeSp s.pc s).readByte ∧ memRead t = memRead (memWrite s.activeSp s.pc s) := by
  obtain rfl | rfl := execCall_cases h <;> exact ⟨rfl, rfl⟩

/-- Settles O13, by the laws of a written word. -/
theorem callStoresOneWord : Obligations.CallStoresOneWord := by
  intro s t w1 h
  obtain ⟨hbyte, hword⟩ := execCall_reads h
  refine ⟨fun a ha => ?_, fun hnodup => ?_⟩
  · rw [hbyte]
    exact readByte_memWrite_of_notMem _ ha
  · rw [hword]
    exact memRead_memWrite_same s _ _ hnodup

/-- Settles O33, over the effects an instruction can have: only the two of CALL push. -/
theorem onlyCallStores : Obligations.OnlyCallStores := by
  intro i s t h hcall a
  cases exec_effect h with
  | calls w1 | callFaults w1 => exact absurd rfl hcall
  | _ => rfl

/-! ## The host's accesses (R264) -/

/-- A legal read of command RAM answers its value, on a faulted device too. -/
theorem step_cramRead {s : State} {a : Word} {n : CramWidth} {rest : List HostOp} (hb : s.budget = none)
    (hin : s.inputs = .cramRead a n :: rest) (ha : a.toNat % n.bytes = 0) :
    step s = .next (finish (.value (cramValue s a n)) { s with inputs := rest }) := by
  rw [step_between s hb, hostStep_op s hin]
  cases n <;> exact if_pos (decide_eq_true ha)

/-- A legal write of command RAM stores its bytes, on a faulted device too. -/
theorem step_cramWrite {s : State} {a v : Word} {n : CramWidth} {rest : List HostOp} (hb : s.budget = none)
    (hin : s.inputs = .cramWrite a n v :: rest) (ha : a.toNat % n.bytes = 0) :
    step s = .next (finish .done (cramStore a n v { s with inputs := rest })) := by
  rw [step_between s hb, hostStep_op s hin]
  exact if_pos (decide_eq_true ha)

/-- What every address reads after the host writes one byte. -/
theorem readByte_cramStore_one (s : State) (a v x : Word) :
    (cramStore a .one v s).readByte x
      = if storageLoc s.cfg a = storageLoc s.cfg x then v.extractLsb' 0 8 else s.readByte x := by
  rw [← BitVec.setWidth_eq_extractLsb' (by decide : 8 ≤ 32)]
  exact readByte_storeByte s a _ x

/-- What every address reads after the host writes a half word; the byte at the higher address is stored last. -/
theorem readByte_cramStore_two (s : State) (a v x : Word) :
    (cramStore a .two v s).readByte x
      = if storageLoc s.cfg (a + 1) = storageLoc s.cfg x then halfByte s.cfg.cramEndian (v.setWidth 16) 1
        else if storageLoc s.cfg a = storageLoc s.cfg x then halfByte s.cfg.cramEndian (v.setWidth 16) 0
        else s.readByte x := by
  rw [← readByte_storeByte s a]
  exact readByte_storeByte { s with cram := storeByte s.cfg s.cram a _ } (a + 1) _ x

/-- The bytes of a half word under the decided byte order are the low two of the word written. -/
theorem halfByte_little (v : Word) :
    halfByte .little (v.setWidth 16) 0 = v.extractLsb' 0 8 ∧ halfByte .little (v.setWidth 16) 1 = v.extractLsb' 8 8 :=
  ⟨BitVec.extractLsb'_setWidth_of_le (by decide), BitVec.extractLsb'_setWidth_of_le (by decide)⟩

/-- The value of a half word under the decided byte order: its higher byte is at the higher address (R61). -/
theorem cramValue_two_little {s : State} (a : Word) (h : s.cfg.cramEndian = .little) :
    cramValue s a .two = (s.readByte (a + 1) ++ s.readByte a).setWidth 32 := by
  simp only [cramValue, h, joinHalf]

/-- Settles O60: each access is one step, and the written bytes read by the laws of their width. -/
theorem hostAccessesToCommandRam : Obligations.HostAccessesToCommandRam := by
  intro s a v rest hb
  refine ⟨fun hlittle => ?order, fun hin ha => step_cramRead hb hin ha, fun hin ha hlittle => ?readHalf,
    fun hin => step_cramRead hb hin (Nat.mod_one _), fun hin ha hnodup => ?writeWord, fun hin ha hne => ?writeHalf,
    fun hin => ?writeByte⟩
  case order => rw [memRead, hlittle, join_little_toNat]
  case readHalf =>
    rw [← cramValue_two_little a hlittle]
    exact step_cramRead hb hin ha
  case writeWord =>
    exact ⟨_, step_cramWrite hb hin ha, memRead_memWrite_same _ a v hnodup,
      fun x hx => readByte_memWrite_of_notMem (s := { s with inputs := rest }) v hx, rfl⟩
  case writeHalf =>
    have hread := readByte_cramStore_two { s with inputs := rest } a v
    obtain ⟨hlow, hhigh⟩ := halfByte_little v
    refine ⟨_, step_cramWrite hb hin ha, fun hlittle => ⟨?_, ?_⟩, fun x h0 h1 => ?_, rfl⟩
    · refine (hread a).trans ?_
      rw [if_neg (Ne.symm hne), if_pos rfl, ← hlow, ← hlittle]
    · refine (hread (a + 1)).trans ?_
      rw [if_pos rfl, ← hhigh, ← hlittle]
    · exact (hread x).trans ((if_neg (Ne.symm h1)).trans (if_neg (Ne.symm h0)))
  case writeByte =>
    have hread := readByte_cramStore_one { s with inputs := rest } a v
    exact ⟨_, step_cramWrite hb hin (Nat.mod_one _), (hread a).trans (if_pos rfl),
      fun x hx => (hread x).trans (if_neg (Ne.symm hx)), rfl⟩

end Sys2Proof.Machine
end

section
/-! The words of an instruction (R81 to R87, R94): the mnemonic that a first word names, the reserved bits of a list of words,
and sub-fields placed in a word and read from it. -/

namespace Sys2Proof

/-! ## The opcode (R81, R89, R91) -/

theorem Mnemonic.mem_all (m : Mnemonic) : m ∈ Mnemonic.all := by
  cases m <;> decide

/-- A property checked over the table of mnemonics holds of each. -/
theorem Mnemonic.of_all {p : Mnemonic → Bool} (h : Mnemonic.all.all p = true) (m : Mnemonic) : p m = true :=
  List.all_eq_true.mp h m m.mem_all

theorem Cfg.opcode_of_mnemonicOf {c : Cfg} {w0 : Word} {m : Mnemonic} (h : c.mnemonicOf w0 = some m) :
    c.opcode m = w0.extractLsb' 0 12 := by
  rw [← BitVec.setWidth_eq_extractLsb' (by decide : 12 ≤ 32)]
  simpa using List.find?_some h

theorem Cfg.mnemonicOf_eq_none_iff (c : Cfg) (w0 : Word) :
    c.mnemonicOf w0 = none ↔ ∀ m, c.opcode m ≠ w0.extractLsb' 0 12 := by
  rw [← BitVec.setWidth_eq_extractLsb' (by decide : 12 ≤ 32)]
  simp [Cfg.mnemonicOf, Mnemonic.mem_all]

/-- The constraints of rule R9 on the encodings: on `OPMAP`, on `RSV` and on `FIELD`. -/
theorem Cfg.wf_encoding {c : Cfg} (hc : c.wf = true) : c.opmapWf = true ∧ c.reservedWf = true ∧ c.fieldsWf = true := by
  simp only [Cfg.wf, Bool.and_eq_true] at hc
  obtain ⟨⟨⟨⟨⟨-, hopmap⟩, hreserved⟩, hfields⟩, -⟩, -⟩ := hc
  exact ⟨hopmap, hreserved, hfields⟩

/-- Two mnemonics of a well-formed configuration differ in their opcodes (R91). -/
theorem Cfg.opcode_injective {c : Cfg} (hc : c.wf = true) : Function.Injective c.opcode := by
  obtain ⟨hopmap, -, -⟩ := Cfg.wf_encoding hc
  have hnodup : (Mnemonic.all.map c.opcode).Nodup := of_decide_eq_true hopmap
  exact fun m n h => List.inj_on_of_nodup_map hnodup m.mem_all n.mem_all h

/-- Settles O3: the table names some mnemonic with that opcode, and only one has it. -/
theorem opcodeNamesTheMnemonic : Obligations.OpcodeNamesTheMnemonic := by
  intro c w0 m hc
  refine ⟨Cfg.opcode_of_mnemonicOf, fun h => ?_⟩
  cases hn : c.mnemonicOf w0 with
  | none => exact absurd h ((c.mnemonicOf_eq_none_iff w0).mp hn m)
  | some n => rw [Cfg.opcode_injective hc (h.trans (Cfg.opcode_of_mnemonicOf hn).symm)]

theorem Cfg.opcode_firstWord (c : Cfg) (m : Mnemonic) (attr : BitVec 20) :
    (c.firstWord m attr).extractLsb' 0 12 = c.opcode m :=
  BitVec.extractLsb'_append_eq_right

@[simp] theorem attrOf_firstWord (c : Cfg) (m : Mnemonic) (attr : BitVec 20) (ws : List Word) :
    attrOf (c.firstWord m attr :: ws) = attr :=
  BitVec.extractLsb'_append_eq_left

/-- A first word is its opcode with the other bits above it (R81). -/
theorem Cfg.firstWord_attrOf {c : Cfg} {m : Mnemonic} {w0 : Word} (h : c.opcode m = w0.extractLsb' 0 12) (ws : List Word) :
    c.firstWord m (attrOf (w0 :: ws)) = w0 := by
  rw [Cfg.firstWord, h]
  exact (BitVec.extractLsb'_append_extractLsb'_eq_extractLsb' (x := w0) rfl).trans BitVec.extractLsb'_eq_self

/-! ## Reserved bits (R84, R90, R105) -/

theorem Cfg.firstReserved_cons_eq_none_iff (c : Cfg) (m : Mnemonic) (j : Nat) (w : Word) (ws : List Word) :
    c.firstReserved m j (w :: ws) = none ↔ w &&& c.reserved m j = 0 ∧ c.firstReserved m (j + 1) ws = none := by
  simp only [Cfg.firstReserved]
  split
  · next h => exact (and_iff_right h).symm
  · next h => exact iff_of_false nofun fun h' => h h'.1

/-- From a word on after which all are binary32, no bit is reserved (R84). -/
theorem Cfg.firstReserved_of_floats {c : Cfg} {m : Mnemonic} {j : Nat} (hm : m ≠ .NOP)
    (hfloat : ∀ k, c.isFloatWord m k = decide (j ≤ k)) (ws : List Word) : c.firstReserved m j ws = none := by
  have hmask : ∀ k, j ≤ k → c.reserved m k = 0 := fun k hk => by simp [Cfg.reserved, hm, hfloat, hk]
  clear hfloat
  induction ws generalizing j with
  | nil => rfl
  | cons w ws ih =>
    exact (c.firstReserved_cons_eq_none_iff m j w ws).mpr
      ⟨by simp [hmask j le_rfl], ih fun k hk => hmask k (Nat.le_of_succ_le hk)⟩

/-- Zero words pass the check, whatever is reserved. -/
theorem Cfg.firstReserved_replicate_zero (c : Cfg) (m : Mnemonic) (j n : Nat) :
    c.firstReserved m j (List.replicate n 0) = none := by
  induction n generalizing j with
  | zero => rfl
  | succ n ih => exact (c.firstReserved_cons_eq_none_iff m j 0 _).mpr ⟨by simp, ih _⟩

/-- The check names the first word with a reserved bit set (R105). -/
theorem Cfg.firstReserved_eq_some {c : Cfg} {m : Mnemonic} {ws : List Word} {i j : Nat} (hj : j < ws.length)
    (hset : wordAt ws j &&& c.reserved m (i + j) ≠ 0) (hclear : ∀ k < j, wordAt ws k &&& c.reserved m (i + k) = 0) :
    c.firstReserved m i ws = some (i + j, wordAt ws j) := by
  induction ws generalizing i j with
  | nil => cases hj
  | cons w ws ih =>
    cases j with
    | zero => exact if_neg hset
    | succ j =>
      have shift (k : Nat) : i + (k + 1) = i + 1 + k := by omega
      rw [shift] at hset ⊢
      exact (if_pos (hclear 0 j.succ_pos)).trans
        (ih (Nat.lt_of_succ_lt_succ hj) hset fun k hk => shift k ▸ hclear (k + 1) (Nat.succ_lt_succ hk))

/-- No bit of the opcode is reserved (R84). -/
theorem Cfg.reserved_and_opcode {c : Cfg} (hc : c.wf = true) (m : Mnemonic) : c.reserved m 0 &&& 0xFFF = 0 := by
  obtain ⟨-, hreserved, -⟩ := Cfg.wf_encoding hc
  exact of_decide_eq_true (Mnemonic.of_all hreserved m)

/-- The bits of a low mask. -/
theorem getLsbD_lowMask (n i : Nat) :
    (BitVec.ofNat 32 (2 ^ n - 1)).getLsbD i = (decide (i < 32) && decide (i < n)) := by
  rw [BitVec.getLsbD_ofNat, Nat.testBit_two_pow_sub_one]

theorem getLsbD_opcodeMask (i : Nat) : (0xFFF : Word).getLsbD i = (decide (i < 32) && decide (i < 12)) :=
  getLsbD_lowMask 12 i

/-- A first word with nothing above its opcode has only opcode bits. -/
theorem Cfg.firstWord_zero_and {c : Cfg} {r : Word} (m : Mnemonic) (h : r &&& 0xFFF = 0) : c.firstWord m 0 &&& r = 0 := by
  have hlow : c.firstWord m 0 = c.firstWord m 0 &&& 0xFFF := by
    apply BitVec.eq_of_getLsbD_eq
    intro i hi
    rw [BitVec.getLsbD_and, getLsbD_opcodeMask, Cfg.firstWord, BitVec.getLsbD_append]
    by_cases hop : i < 12 <;> simp [hi, hop]
  rw [hlow, BitVec.and_assoc, BitVec.and_comm 0xFFF, h]
  exact BitVec.and_zero

theorem Cfg.attrOk_zero {c : Cfg} (hc : c.wf = true) (m : Mnemonic) : c.attrOk m 0 = true :=
  decide_eq_true (Cfg.firstWord_zero_and m (Cfg.reserved_and_opcode hc m))

/-! ## One sub-field (R87) -/

/-- The bits of a field in one word, at the low end. -/
def Field.slice (f : Field) (w : Word) : Word := (w >>> f.lo) &&& BitVec.ofNat 32 (2 ^ f.width - 1)

theorem Field.get_eq_slice (f : Field) (ws : List Word) : f.get ws = f.slice (wordAt ws f.word) := rfl

theorem Field.getLsbD_slice (f : Field) (w : Word) (i : Nat) :
    (f.slice w).getLsbD i = (w.getLsbD (f.lo + i) && (decide (i < 32) && decide (i < f.width))) := by
  rw [Field.slice, BitVec.getLsbD_and, getLsbD_lowMask, BitVec.getLsbD_ushiftRight]

theorem Field.getLsbD_mask (f : Field) (i : Nat) :
    f.mask.getLsbD i = (decide (i < 32) && !decide (i < f.lo) && decide (i - f.lo < f.width)) := by
  rw [Field.mask, BitVec.getLsbD_shiftLeft, getLsbD_lowMask]
  by_cases h : i < 32
  · simp [h, (Nat.sub_le i f.lo).trans_lt h]
  · simp [h]

theorem Field.fits_slice (f : Field) (w : Word) : f.fits (f.slice w) = true := by
  have hpos : 0 < 2 ^ f.width := Nat.two_pow_pos _
  have hle : (f.slice w).toNat ≤ (2 ^ f.width - 1) % 2 ^ 32 := by
    rw [Field.slice, BitVec.toNat_and, BitVec.toNat_ofNat]
    exact Nat.and_le_right
  have hmod := Nat.mod_le (2 ^ f.width - 1) (2 ^ 32)
  exact decide_eq_true (by omega)

/-- What is read from a field fits it. -/
theorem Field.fits_get (f : Field) (ws : List Word) : f.fits (f.get ws) = true := f.fits_slice _

/-- A value of a field's own width fits it. -/
theorem Field.fits_setWidth {f : Field} {n : Nat} (h : f.width = n) (x : BitVec n) : f.fits (x.setWidth 32) = true := by
  subst h
  exact decide_eq_true ((BitVec.toNat_setWidth 32 x).trans_le (Nat.mod_le _ _) |>.trans_lt x.isLt)

theorem Field.getLsbD_of_fits {f : Field} {v : Word} (h : f.fits v = true) {i : Nat} (hi : f.width ≤ i) :
    v.getLsbD i = false :=
  Nat.testBit_lt_two_pow ((of_decide_eq_true h).trans_le (Nat.pow_le_pow_right (by decide) hi))

/-- A value that fits touches only the bits of its field. -/
theorem Field.place_and {f : Field} {v r : Word} (j : Nat) (hv : f.fits v = true) (h : f.mask &&& r = 0) :
    f.place j v &&& r = 0 := by
  have hmask : f.place j v = f.place j v &&& f.mask := by
    unfold Field.place
    split
    · apply BitVec.eq_of_getLsbD_eq
      intro i hi
      rw [BitVec.getLsbD_and, Field.getLsbD_mask, BitVec.getLsbD_shiftLeft]
      by_cases hw : i - f.lo < f.width
      · simp only [hw, decide_true, Bool.and_true, Bool.and_right_comm _ (v.getLsbD _), Bool.and_self]
      · simp [Field.getLsbD_of_fits hv (Nat.le_of_not_lt hw)]
    · simp
  rw [hmask, BitVec.and_assoc, h]
  exact BitVec.and_zero

theorem Field.slice_or (f : Field) (a b : Word) : f.slice (a ||| b) = f.slice a ||| f.slice b := by
  rw [Field.slice, BitVec.ushiftRight_or_distrib, BitVec.and_comm, BitVec.and_or_distrib_left, BitVec.and_comm,
    BitVec.and_comm _ (b >>> f.lo)]
  rfl

/-- A word with none of a field's bits gives the field 0. -/
theorem Field.slice_of_and {f : Field} {w : Word} (h : w &&& f.mask = 0) : f.slice w = 0 := by
  apply BitVec.eq_of_getLsbD_eq
  intro i hi
  have hbit : (w &&& f.mask).getLsbD (f.lo + i) = false := by simp [h]
  rw [BitVec.getLsbD_and, Field.getLsbD_mask, Nat.add_sub_cancel_left] at hbit
  refine (f.getLsbD_slice w i).trans (Eq.trans ?_ BitVec.getLsbD_zero.symm)
  by_cases hlt : f.lo + i < 32
  · simpa [hi, hlt] using hbit
  · simp [BitVec.getLsbD_of_ge w _ (Nat.le_of_not_lt hlt)]

/-- A field gives back the value placed in it. -/
theorem Field.slice_place {f : Field} {v : Word} (hlo : f.lo ≤ f.hi) (hhi : f.hi ≤ 31) (hv : f.fits v = true) :
    f.slice (f.place f.word v) = v := by
  apply BitVec.eq_of_getLsbD_eq
  intro i hi
  rw [Field.getLsbD_slice, Field.place, if_pos rfl, BitVec.getLsbD_shiftLeft]
  by_cases hw : i < f.width
  · have hlt : f.lo + i < 32 := by
      unfold Field.width at hw
      omega
    simp [hlt, hi, hw]
  · simp [hw, Field.getLsbD_of_fits hv (Nat.le_of_not_lt hw)]

/-! ## The sub-fields of a word (R87, R94) -/

/-- Word `j` with base `w` and the values of a list of fields placed in it. -/
def placedIn (j : Nat) (w : Word) (ps : List (Field × Word)) : Word := ps.foldl (fun x p => x ||| p.1.place j p.2) w

theorem or_and_eq_zero {a b r : Word} (ha : a &&& r = 0) (hb : b &&& r = 0) : (a ||| b) &&& r = 0 := by
  rw [BitVec.and_comm, BitVec.and_or_distrib_left, BitVec.and_comm r a, BitVec.and_comm r b, ha, hb]
  rfl

/-- Values that fit fields clear of `r` leave a word clear of `r`. -/
theorem placedIn_and {j : Nat} {w r : Word} {ps : List (Field × Word)} (hw : w &&& r = 0)
    (hps : ∀ p ∈ ps, p.1.fits p.2 = true ∧ p.1.mask &&& r = 0) : placedIn j w ps &&& r = 0 := by
  induction ps generalizing w with
  | nil => exact hw
  | cons p ps ih =>
    obtain ⟨⟨hv, hr⟩, hps⟩ := List.forall_mem_cons.mp hps
    exact ih (or_and_eq_zero hw (Field.place_and j hv hr)) hps

/-- Placing values in other fields leaves a field as it was. -/
theorem slice_placedIn_of_disjoint {f : Field} {j : Nat} (w : Word) {ps : List (Field × Word)}
    (hps : ∀ p ∈ ps, p.1.fits p.2 = true ∧ p.1.mask &&& f.mask = 0) : f.slice (placedIn j w ps) = f.slice w := by
  induction ps generalizing w with
  | nil => rfl
  | cons p ps ih =>
    obtain ⟨⟨hv, hr⟩, hps⟩ := List.forall_mem_cons.mp hps
    refine (ih (w ||| p.1.place j p.2) hps).trans ?_
    rw [Field.slice_or, Field.slice_of_and (Field.place_and j hv hr)]
    exact BitVec.or_zero

/-- Disjoint fields of a word give back the values placed in them. -/
theorem slice_placedIn {j : Nat} {w : Word} {ps : List (Field × Word)}
    (hps : ∀ p ∈ ps, p.1.word = j ∧ p.1.lo ≤ p.1.hi ∧ p.1.hi ≤ 31 ∧ p.1.fits p.2 = true ∧ w &&& p.1.mask = 0)
    (hdisj : ps.Pairwise fun p q => p.1.mask &&& q.1.mask = 0) : ∀ p ∈ ps, p.1.slice (placedIn j w ps) = p.2 := by
  induction ps generalizing w with
  | nil => simp
  | cons q ps ih =>
    obtain ⟨⟨hj, hlo, hhi, hv, hw⟩, hps⟩ := List.forall_mem_cons.mp hps
    obtain ⟨hq, hdisj⟩ := List.pairwise_cons.mp hdisj
    refine List.forall_mem_cons.mpr ⟨?head, ih (fun p hp => ?tail) hdisj⟩
    case head =>
      have hrest : q.1.slice (placedIn j (w ||| q.1.place j q.2) ps) = q.1.slice (w ||| q.1.place j q.2) :=
        slice_placedIn_of_disjoint _ fun p hp =>
          have ⟨_, _, _, hv', _⟩ := hps p hp
          ⟨hv', BitVec.and_comm _ _ ▸ hq p hp⟩
      refine hrest.trans ?_
      rw [Field.slice_or, Field.slice_of_and hw, ← hj, Field.slice_place hlo hhi hv]
      exact BitVec.zero_or
    case tail =>
      obtain ⟨hj', hlo', hhi', hv', hw'⟩ := hps p hp
      exact ⟨hj', hlo', hhi', hv', or_and_eq_zero hw' (Field.place_and j hv (hq p hp))⟩

/-- The opcode is the field at bits 11:0 of a first word (R81). -/
theorem opcode_eq_slice (w : Word) : w.extractLsb' 0 12 = ((⟨0, 11, 0⟩ : Field).slice w).setWidth 12 := by
  apply BitVec.eq_of_getLsbD_eq
  intro i hi
  rw [BitVec.getLsbD_setWidth, Field.getLsbD_slice, BitVec.getLsbD_extractLsb']
  simp [hi, Field.width, hi.trans (by decide : 12 < 32)]

/-- Fields above the opcode leave it as it was (R87). -/
theorem opcode_placedIn {j : Nat} (w : Word) {ps : List (Field × Word)}
    (hps : ∀ p ∈ ps, p.1.fits p.2 = true ∧ p.1.mask &&& 0xFFF = 0) :
    (placedIn j w ps).extractLsb' 0 12 = w.extractLsb' 0 12 := by
  rw [opcode_eq_slice, opcode_eq_slice, slice_placedIn_of_disjoint w hps]

/-- A field that starts above the opcode has no opcode bit. -/
theorem Field.mask_and_opcode {f : Field} (h : 12 ≤ f.lo) : f.mask &&& 0xFFF = 0 := by
  apply BitVec.eq_of_getLsbD_eq
  intro i hi
  rw [BitVec.getLsbD_and, Field.getLsbD_mask, getLsbD_opcodeMask]
  by_cases hop : i < 12
  · simp [hop.trans_le h]
  · simp [hop]

/-! ## The fields of a mnemonic (R87) -/

theorem disjointFields_iff (fs : List Field) : disjointFields fs = true ↔ fs.Pairwise fun f g => f.disjoint g = true := by
  induction fs with
  | nil => simp [disjointFields]
  | cons f fs ih => simp [disjointFields, ih]

/-- What rule R87 asks of the fields of each mnemonic. -/
theorem Cfg.fieldsOf_wf {c : Cfg} (hc : c.wf = true) (m : Mnemonic) :
    (∀ f ∈ c.fieldsOf m, c.fieldOk m f = true) ∧ ((c.fieldsOf m).Pairwise fun f g => f.disjoint g = true)
      ∧ ∀ ws, m.fieldWidths = some ws → (c.fieldsOf m).map Field.width = ws := by
  obtain ⟨-, -, hfields⟩ := Cfg.wf_encoding hc
  simp only [Cfg.fieldsWf, Bool.and_eq_true] at hfields
  obtain ⟨⟨hall, -⟩, -⟩ := hfields
  have hm := Mnemonic.of_all hall m
  simp only [Bool.and_eq_true, List.all_eq_true, disjointFields_iff] at hm
  obtain ⟨⟨hok, hdisj⟩, hwidths⟩ := hm
  refine ⟨hok, hdisj, fun ws hws => ?_⟩
  simpa [hws] using hwidths

/-- The fields of an `m`, which lie in word `j`, each with a value that fits it. -/
structure Cfg.Fills (c : Cfg) (m : Mnemonic) (j : Nat) (ps : List (Field × Word)) : Prop where
  fields : ps.map Prod.fst = c.fieldsOf m
  word : ∀ k, m.fieldWordOk k = true → k = j
  fits : ∀ p ∈ ps, p.1.fits p.2 = true

theorem Cfg.Fills.fieldOk {c : Cfg} {m : Mnemonic} {j : Nat} {ps : List (Field × Word)} (hc : c.wf = true)
    (h : c.Fills m j ps) {p : Field × Word} (hp : p ∈ ps) :
    p.1.word = j ∧ p.1.lo ≤ p.1.hi ∧ p.1.hi ≤ 31 ∧ p.1.mask &&& c.reserved m j = 0
      ∧ (j = 0 → p.1.mask &&& 0xFFF = 0) := by
  obtain ⟨hall, -, -⟩ := Cfg.fieldsOf_wf hc m
  have hok := hall p.1 (h.fields ▸ List.mem_map_of_mem hp)
  simp only [Cfg.fieldOk, Bool.and_eq_true, Bool.or_eq_true, decide_eq_true_eq] at hok
  obtain ⟨⟨⟨⟨hlo, hhi⟩, hword⟩, habove⟩, hres⟩ := hok
  obtain rfl := h.word _ hword
  exact ⟨rfl, hlo, hhi, hres, fun h0 => Field.mask_and_opcode (habove.resolve_left (absurd h0))⟩

/-- A word filled with a mnemonic's fields touches no reserved bit but those of its base (R84, R87). -/
theorem Cfg.Fills.reserved {c : Cfg} {m : Mnemonic} {j : Nat} {w : Word} {ps : List (Field × Word)} (hc : c.wf = true)
    (h : c.Fills m j ps) (hw : w &&& c.reserved m j = 0) : placedIn j w ps &&& c.reserved m j = 0 :=
  placedIn_and hw fun p hp =>
    have ⟨_, _, _, hres, _⟩ := h.fieldOk hc hp
    ⟨h.fits p hp, hres⟩

/-- Each field reads the value it was filled with. -/
theorem Cfg.Fills.get {c : Cfg} {m : Mnemonic} {j : Nat} {w : Word} {ws : List Word} {ps : List (Field × Word)}
    (hc : c.wf = true) (h : c.Fills m j ps) (hw : ∀ p ∈ ps, w &&& p.1.mask = 0) (hws : wordAt ws j = placedIn j w ps) :
    ∀ p ∈ ps, p.1.get ws = p.2 := by
  have hdisj : ps.Pairwise fun p q => p.1.disjoint q.1 = true :=
    List.pairwise_map.mp (h.fields ▸ (Cfg.fieldsOf_wf hc m).2.1)
  have hslice := slice_placedIn (j := j) (w := w) (ps := ps)
    (fun p hp =>
      have ⟨hj, hlo, hhi, _⟩ := h.fieldOk hc hp
      ⟨hj, hlo, hhi, h.fits p hp, hw p hp⟩)
    (hdisj.imp_of_mem fun {p q} hp hq hpq => by
      simpa [Field.disjoint, (h.fieldOk hc hp).1, (h.fieldOk hc hq).1] using hpq)
  intro p hp
  rw [Field.get_eq_slice, (h.fieldOk hc hp).1, hws, hslice p hp]

end Sys2Proof
end

section
/-! The decoder and the encoder (R82, R84, R91, R92, R94). -/

namespace Sys2Proof

theorem Format.words_pos (f : Format) : 0 < f.words := by
  cases f <;> decide

/-- The words that the decoder takes for a whole `m` (R82, R84, R92). -/
structure Cfg.Accepts (c : Cfg) (m : Mnemonic) (ws : List Word) : Prop where
  names : c.mnemonicOf (wordAt ws 0) = some m
  length : ws.length = (c.format m).words
  reserved : c.firstReserved m 0 ws = none

/-- The decoder reads the operands of the accepted words at the front (R92). -/
theorem Cfg.decode_eq_ok_iff (c : Cfg) (ws rest : List Word) (i : Instr) :
    c.decode ws = .ok (i, rest) ↔ ∃ m us, ws = us ++ rest ∧ c.Accepts m us ∧ c.operands m us = i := by
  constructor
  · intro h
    unfold Cfg.decode at h
    split at h
    · cases h
    · next w0 ws =>
      split at h
      · cases h
      · next m hm =>
        dsimp only at h
        split at h
        · cases h
        · next hlen =>
          split at h
          · cases h
          · next hres =>
            cases h
            have hpos := (c.format m).words_pos
            refine ⟨m, _, (List.take_append_drop _ _).symm, ⟨?_, ?_, hres⟩, rfl⟩
            · simpa [wordAt, hpos] using hm
            · simpa using hlen
  · rintro ⟨m, us, rfl, ⟨hm, hlen, hres⟩, rfl⟩
    cases us with
    | nil => exact absurd hlen (c.format m).words_pos.ne
    | cons w us =>
      have hm' : c.mnemonicOf w = some m := hm
      have hlong : ¬ (w :: (us ++ rest)).length < (c.format m).words := by simp [← hlen]
      have htake : (w :: (us ++ rest)).take (c.format m).words = w :: us := hlen ▸ List.take_left
      have hdrop : (w :: (us ++ rest)).drop (c.format m).words = rest := hlen ▸ List.drop_left
      simp only [Cfg.decode, List.cons_append, hm', if_neg hlong, htake, hres, hdrop]

/-! ## What decodes is well formed (R82, R84) -/

theorem Cfg.operands_mnemonic (c : Cfg) (m : Mnemonic) (ws : List Word) : (c.operands m ws).mnemonic = m := by
  cases m <;> rfl

namespace Cfg.Accepts

variable {c : Cfg} {m : Mnemonic} {ws : List Word}

/-- Accepted words are a first word, free of reserved bits, and a tail that is too. -/
theorem cons (h : c.Accepts m ws) :
    ws = wordAt ws 0 :: ws.tail ∧ wordAt ws 0 &&& c.reserved m 0 = 0 ∧ c.firstReserved m 1 ws.tail = none := by
  cases ws with
  | nil => exact absurd h.length (c.format m).words_pos.ne
  | cons w ws => exact ⟨rfl, (c.firstReserved_cons_eq_none_iff m 0 w ws).mp h.reserved⟩

theorem attrOk (h : c.Accepts m ws) : c.attrOk m (attrOf ws) = true := by
  obtain ⟨hws, hfirst, -⟩ := h.cons
  rw [Cfg.attrOk, hws, Cfg.firstWord_attrOf (Cfg.opcode_of_mnemonicOf h.names)]
  exact decide_eq_true hfirst

theorem tailOk (h : c.Accepts m ws) : c.tailOk m ws.tail = true :=
  have ⟨_, _, htail⟩ := h.cons
  decide_eq_true htail

theorem tailLength (h : c.Accepts m ws) : c.tailLength m ws.tail = true := by
  obtain ⟨hws, -, -⟩ := h.cons
  refine decide_eq_true (Eq.trans ?_ h.length)
  rw [hws]
  rfl

/-- An instruction of two words has its operand word as its tail. -/
theorem tailOk_f8 (h : c.Accepts m ws) (hf : c.format m = .f8) : c.tailOk m [wordAt ws 1] = true := by
  have hlen : ws.length = 2 := h.length.trans (congrArg Format.words hf)
  match ws, hlen, h.tailOk with
  | [_, _], _, htail => exact htail

/-- An instruction of four words has its three operand words as its tail. -/
theorem tailOk_f16 (h : c.Accepts m ws) (hf : c.format m = .f16) :
    c.tailOk m [wordAt ws 1, wordAt ws 2, wordAt ws 3] = true := by
  have hlen : ws.length = 4 := h.length.trans (congrArg Format.words hf)
  match ws, hlen, h.tailOk with
  | [_, _, _, _], _, htail => exact htail

/-- The operands read from accepted words have an encoding: a field's value fits it, and no word has a reserved bit. -/
theorem operands_wf (h : c.Accepts m ws) : (c.operands m ws).wf c = true := by
  cases m with
  | JUMP | CALL | CLEAR_A | CLEAR_B => exact h.tailOk_f8 rfl
  | VP_SET_0 | VP_SET_1 | VP_SET_2 | VP_SET_3 | VP_SET_4 | VP_SET_5 =>
    simp only [Cfg.operands, Instr.wf, h.attrOk, h.tailLength, h.tailOk, Bool.and_self]
  | COLOR_SET_0 | COLOR_SET_2 | COLOR_SET_4 | COLOR_SET_6 =>
    simp only [Cfg.operands, Instr.wf, h.attrOk, h.tailOk_f8 rfl, Bool.and_self]
  | TEX_SET_0 | TEX_SET_2 | TEX_SET_4 | TEX_COMMIT | TEX_RECALL => exact h.attrOk
  | TEXCOORD_0 | TEXCOORD_1 => exact h.tailOk_f16 rfl
  | VP_RECALL | COLOR_COMMIT | COLOR_RECALL
  | VTXN_0 | VTXN_1 | VTXN_2 | VTXN_3 | VTXN_4 | VTXN_5 | VTXN_6 | VTXN_7 =>
    simp only [Cfg.operands, Instr.wf, Field.fits_get, Bool.and_self]
  | DIAG_101 | DIAG_301 | DIAG_501 | DIAG_043 | DIAG_901 | DIAG_3A1 | DIAG_5A1 | DIAG_6D1 | DIAG_181
  | DIAG_303 | DIAG_104 | DIAG_051 | DIAG_006 | DIAG_046 | DIAG_451 | DIAG_064 | DIAG_561 | DIAG_E88 =>
    simp only [Cfg.operands, Instr.wf, h.tailLength, h.tailOk, Bool.and_self]
  | _ => rfl

end Cfg.Accepts

/-- Settles O2: the decoder accepts the words at the front, and reads well-formed operands from them. -/
theorem decodedIsWellFormed : Obligations.DecodedIsWellFormed := by
  intro c ws rest i h
  obtain ⟨m, us, rfl, haccepts, rfl⟩ := (c.decode_eq_ok_iff ws rest i).mp h
  rw [c.operands_mnemonic, ← haccepts.length]
  exact ⟨haccepts.operands_wf, List.drop_left, by simp⟩

/-! ## Every well-formed instruction decodes from its encoding (R94) -/

/-- The words the encoder gives are accepted, and the instruction is read from them. -/
structure Cfg.Encodes (c : Cfg) (i : Instr) : Prop where
  accepts : c.Accepts i.mnemonic (c.encode i)
  operands : c.operands i.mnemonic (c.encode i) = i

namespace Cfg.Encodes

variable {c : Cfg} {i : Instr}

/-- The parts an encoding is checked by: its first word's opcode and reserved bits, its tail and its operands. -/
theorem of_cons {w : Word} {ws : List Word} (hc : c.wf = true) (henc : c.encode i = w :: ws)
    (hop : w.extractLsb' 0 12 = c.opcode i.mnemonic) (hfirst : w &&& c.reserved i.mnemonic 0 = 0)
    (htail : c.firstReserved i.mnemonic 1 ws = none) (hlen : (c.encode i).length = (c.format i.mnemonic).words)
    (hoperands : c.operands i.mnemonic (c.encode i) = i) : c.Encodes i := by
  refine ⟨⟨?names, hlen, ?reserved⟩, hoperands⟩
  case names =>
    rw [henc]
    exact (opcodeNamesTheMnemonic c w _ hc).mpr hop.symm
  case reserved =>
    rw [henc]
    exact (c.firstReserved_cons_eq_none_iff _ 0 w ws).mpr ⟨hfirst, htail⟩

/-- An instruction without sub-fields: operand bits above the opcode, then operand words. -/
theorem plain {attr : BitVec 20} {ws : List Word} (hc : c.wf = true)
    (henc : c.encode i = c.firstWord i.mnemonic attr :: ws) (hattr : c.attrOk i.mnemonic attr = true)
    (htail : c.tailOk i.mnemonic ws = true) (hlen : (c.encode i).length = (c.format i.mnemonic).words)
    (hoperands : c.operands i.mnemonic (c.encode i) = i) : c.Encodes i :=
  of_cons hc henc (c.opcode_firstWord _ _) (of_decide_eq_true hattr) (of_decide_eq_true htail) hlen hoperands

/-- An instruction with sub-fields in its first word. -/
theorem fields {ws : List Word} (ps : List (Field × Word)) (hc : c.wf = true) (hfills : c.Fills i.mnemonic 0 ps)
    (henc : c.encode i = placedIn 0 (c.firstWord i.mnemonic 0) ps :: ws) (htail : c.firstReserved i.mnemonic 1 ws = none)
    (hlen : (c.encode i).length = (c.format i.mnemonic).words)
    (hoperands : (∀ p ∈ ps, p.1.get (c.encode i) = p.2) → c.operands i.mnemonic (c.encode i) = i) : c.Encodes i := by
  have hopcode : ∀ p ∈ ps, p.1.mask &&& 0xFFF = 0 := fun p hp =>
    have ⟨_, _, _, _, habove⟩ := hfills.fieldOk hc hp
    habove rfl
  refine of_cons hc henc ?_ (hfills.reserved hc (of_decide_eq_true (attrOk_zero hc _))) htail hlen (hoperands ?_)
  · rw [opcode_placedIn _ fun p hp => ⟨hfills.fits p hp, hopcode p hp⟩]
    exact c.opcode_firstWord _ _
  · exact hfills.get hc (fun p hp => firstWord_zero_and _ (hopcode p hp)) (by rw [henc]; rfl)

end Cfg.Encodes

theorem vector_four_toList {α : Type} (v : Vector α 4) : v.toList = [v.get 0, v.get 1, v.get 2, v.get 3] := by
  match v with
  | ⟨⟨[_, _, _, _]⟩, _⟩ => rfl

/-- A field that rule R87 gives a width, with a value of that width. -/
structure SizedField where
  field : Field
  width : Nat
  value : BitVec width

/-- The field and the word that the encoder places in it. -/
def SizedField.placed (p : SizedField) : Field × Word := (p.field, p.value.setWidth 32)

theorem Cfg.width_of_sized {c : Cfg} {m : Mnemonic} {ps : List SizedField} (hc : c.wf = true)
    (hfields : c.fieldsOf m = ps.map SizedField.field) (hwidths : m.fieldWidths = some (ps.map SizedField.width)) :
    ∀ p ∈ ps, p.field.width = p.width := by
  obtain ⟨-, -, hwf⟩ := Cfg.fieldsOf_wf hc m
  have hmap := hwf _ hwidths
  rw [hfields, List.map_map] at hmap
  exact List.map_inj_left.mp hmap

theorem Cfg.Fills.of_sized {c : Cfg} {m : Mnemonic} {j : Nat} {ps : List SizedField} (hc : c.wf = true)
    (hfields : c.fieldsOf m = ps.map SizedField.field) (hwidths : m.fieldWidths = some (ps.map SizedField.width))
    (hword : ∀ k, m.fieldWordOk k = true → k = j) : c.Fills m j (ps.map SizedField.placed) :=
  ⟨by rw [hfields, List.map_map]; rfl, hword,
    List.forall_mem_map.mpr fun p hp => Field.fits_setWidth (Cfg.width_of_sized hc hfields hwidths p hp) p.value⟩

namespace Cfg.Encodes

variable {c : Cfg} {i : Instr}

/-- An instruction whose sub-fields lie in its first word and have widths that rule R87 gives. -/
theorem sized {ws : List Word} (ps : List SizedField) (hc : c.wf = true)
    (hfields : c.fieldsOf i.mnemonic = ps.map SizedField.field)
    (hwidths : i.mnemonic.fieldWidths = some (ps.map SizedField.width))
    (hword : ∀ k, i.mnemonic.fieldWordOk k = true → k = 0)
    (henc : c.encode i = placedIn 0 (c.firstWord i.mnemonic 0) (ps.map SizedField.placed) :: ws)
    (htail : c.firstReserved i.mnemonic 1 ws = none) (hlen : (c.encode i).length = (c.format i.mnemonic).words)
    (hoperands : (∀ p ∈ ps, (p.field.get (c.encode i)).setWidth p.width = p.value) →
      c.operands i.mnemonic (c.encode i) = i) : c.Encodes i := by
  have hfills := Cfg.Fills.of_sized hc hfields hwidths hword
  refine fields _ hc hfills henc htail hlen fun hget => hoperands fun p hp => ?_
  have hwidth := Cfg.width_of_sized hc hfields hwidths p hp
  have hle : p.width ≤ 32 := by
    obtain ⟨-, (hlo : p.field.lo ≤ p.field.hi), (hhi : p.field.hi ≤ 31), -⟩ :=
      hfills.fieldOk hc (List.mem_map_of_mem hp)
    unfold Field.width at hwidth
    omega
  have hread : p.field.get (c.encode i) = p.value.setWidth 32 := List.forall_mem_map.mp hget p hp
  rw [hread, BitVec.setWidth_setWidth_of_le _ hle]
  exact BitVec.setWidth_eq p.value

/-- A Matrix Set Vector: three sub-fields in the first word, then three binary32 words (R181 to R184). -/
theorem mtxSet {x y z : Word} (f : MtxFields) (index : BitVec 3) (mid sub : BitVec 2) (hc : c.wf = true)
    (hfields : c.fieldsOf i.mnemonic = [f.index, f.mid, f.sub]) (hwidths : i.mnemonic.fieldWidths = some [3, 2, 2])
    (hword : ∀ k, i.mnemonic.fieldWordOk k = decide (k = 0)) (hfloat : ∀ k, c.isFloatWord i.mnemonic k = decide (1 ≤ k))
    (henc : c.encode i = [c.firstWord i.mnemonic 0 ||| f.index.place 0 (index.setWidth 32)
      ||| f.mid.place 0 (mid.setWidth 32) ||| f.sub.place 0 (sub.setWidth 32), x, y, z])
    (hlen : (c.encode i).length = (c.format i.mnemonic).words)
    (hoperands : (f.index.get (c.encode i)).setWidth 3 = index → (f.mid.get (c.encode i)).setWidth 2 = mid →
      (f.sub.get (c.encode i)).setWidth 2 = sub → c.operands i.mnemonic (c.encode i) = i) : c.Encodes i := by
  have hm : i.mnemonic ≠ .NOP := fun h => by simp [h, Mnemonic.fieldWidths] at hwidths
  refine sized [⟨f.index, 3, index⟩, ⟨f.mid, 2, mid⟩, ⟨f.sub, 2, sub⟩] hc hfields hwidths
    (fun k hk => of_decide_eq_true ((hword k).symm.trans hk)) henc
    (firstReserved_of_floats hm hfloat _) hlen fun hget => ?_
  simp only [List.forall_mem_cons] at hget
  obtain ⟨hindex, hmid, hsub, -⟩ := hget
  exact hoperands hindex hmid hsub

/-- A Vertex Normal: two header fields in word 1, then six binary32 words (R202 to R210). -/
theorem vtxN {h0 h1 : Word} {ws : List Word} (f : VtxNFields) (hc : c.wf = true) (hm : i.mnemonic ≠ .NOP)
    (hfields : c.fieldsOf i.mnemonic = [f.h0, f.h1]) (hfits : (f.h0.fits h0 && f.h1.fits h1) = true)
    (hword : ∀ k, i.mnemonic.fieldWordOk k = decide (k = 1)) (hfloat : ∀ k, c.isFloatWord i.mnemonic k = decide (2 ≤ k))
    (henc : c.encode i = c.firstWord i.mnemonic 0 :: (f.h0.place 1 h0 ||| f.h1.place 1 h1) :: ws)
    (hlen : (c.encode i).length = (c.format i.mnemonic).words)
    (hoperands : f.h0.get (c.encode i) = h0 → f.h1.get (c.encode i) = h1 → c.operands i.mnemonic (c.encode i) = i) :
    c.Encodes i := by
  have hfills : c.Fills i.mnemonic 1 [(f.h0, h0), (f.h1, h1)] :=
    ⟨hfields.symm, fun k hk => of_decide_eq_true ((hword k).symm.trans hk), by simpa using hfits⟩
  have hword1 : f.h0.place 1 h0 ||| f.h1.place 1 h1 = placedIn 1 0 [(f.h0, h0), (f.h1, h1)] := by
    simp [placedIn]
  rw [hword1] at henc
  have hget := hfills.get (ws := c.encode i) hc (fun p _ => BitVec.zero_and) (by rw [henc]; rfl)
  simp only [List.forall_mem_cons] at hget
  obtain ⟨hget0, hget1, -⟩ := hget
  refine plain hc henc (attrOk_zero hc _) (decide_eq_true ?_) hlen (hoperands hget0 hget1)
  exact (c.firstReserved_cons_eq_none_iff _ 1 _ ws).mpr
    ⟨hfills.reserved hc BitVec.zero_and, firstReserved_of_floats hm hfloat ws⟩

/-- Color Commit and Color Recall: two sub-fields in the only word (R165, R166). -/
theorem color {count modifier : Word} (f : ColorFields) (hc : c.wf = true)
    (hfields : c.fieldsOf i.mnemonic = [f.count, f.modifier]) (hfits : (f.count.fits count && f.modifier.fits modifier) = true)
    (hword : ∀ k, i.mnemonic.fieldWordOk k = decide (k = 0))
    (henc : c.encode i = [c.firstWord i.mnemonic 0 ||| f.count.place 0 count ||| f.modifier.place 0 modifier])
    (hlen : (c.encode i).length = (c.format i.mnemonic).words)
    (hoperands : f.count.get (c.encode i) = count → f.modifier.get (c.encode i) = modifier →
      c.operands i.mnemonic (c.encode i) = i) : c.Encodes i := by
  refine fields [(f.count, count), (f.modifier, modifier)] hc
    ⟨hfields.symm, fun k hk => of_decide_eq_true ((hword k).symm.trans hk), by simpa using hfits⟩ henc rfl hlen
    fun hget => ?_
  simp only [List.forall_mem_cons] at hget
  obtain ⟨hcount, hmodifier, -⟩ := hget
  exact hoperands hcount hmodifier

/-- Every well-formed instruction decodes from its encoding: by the place its operands have, in the bits above the opcode, in
words of their own, or in sub-fields. -/
theorem of_wf (hc : c.wf = true) (h : i.wf c = true) : c.Encodes i := by
  cases i with
  | nop => exact plain hc rfl (attrOk_zero hc _) rfl rfl rfl
  | kill => exact plain hc rfl (attrOk_zero hc _) rfl rfl rfl
  | ret =>
    exact plain hc rfl (attrOk_zero hc _) (decide_eq_true (firstReserved_replicate_zero c _ 1 _))
      (Laws.EncodeLength.ret c h) rfl
  | jump | call | clearA | clearB | texCoord0 | texCoord1 => exact plain hc rfl (attrOk_zero hc _) h rfl rfl
  | texSet0 | texSet2 | texSet4 | texCommit | texRecall =>
    exact plain hc rfl h rfl rfl (by simp only [Cfg.operands, Instr.mnemonic, Cfg.encode, attrOf_firstWord])
  | colorSet0 | colorSet2 | colorSet4 | colorSet6 =>
    obtain ⟨hattr, htail⟩ := Bool.and_eq_true_iff.mp h
    exact plain hc rfl hattr htail rfl (by simp only [Cfg.operands, Instr.mnemonic, Cfg.encode, attrOf_firstWord]; rfl)
  | vpSet0 | vpSet1 | vpSet2 | vpSet3 | vpSet4 | vpSet5 =>
    simp only [Instr.wf, Bool.and_eq_true] at h
    obtain ⟨⟨hattr, hlen⟩, htail⟩ := h
    exact plain hc rfl hattr htail (of_decide_eq_true hlen)
      (by simp only [Cfg.operands, Instr.mnemonic, Cfg.encode, attrOf_firstWord, List.tail_cons])
  | vtx3f0 | vtx3f1 | vtx3f2 | vtx3f3 =>
    exact plain hc rfl (attrOk_zero hc _)
      (decide_eq_true (firstReserved_of_floats (by simp [Instr.mnemonic]) (fun _ => rfl) _)) rfl rfl
  | mtxSet0 index mid sub | mtxSet1 index mid sub | mtxSet2 index mid sub | mtxSet3 index mid sub =>
    refine mtxSet _ index mid sub hc rfl rfl (fun _ => rfl) (fun _ => rfl) rfl rfl fun hindex hmid hsub => ?_
    simp only [Instr.mnemonic, Cfg.operands, hindex, hmid, hsub]
    rfl
  | vtxN0 | vtxN1 | vtxN2 | vtxN3 | vtxN4 | vtxN5 | vtxN6 | vtxN7 =>
    refine vtxN _ hc (by simp [Instr.mnemonic]) rfl h (fun _ => rfl) (fun _ => rfl) rfl rfl fun h0 h1 => ?_
    simp only [Instr.mnemonic, Cfg.operands, h0, h1]
    rfl
  | vpCommit n =>
    refine sized [⟨c.field.vpCommitN, 3, n⟩] hc rfl rfl (fun _ => of_decide_eq_true) rfl rfl rfl fun hget => ?_
    exact congrArg Instr.vpCommit (hget _ List.mem_cons_self)
  | mtxCommit index =>
    refine sized [⟨c.field.mtxCommit, 3, index⟩] hc rfl rfl (fun _ => of_decide_eq_true) rfl rfl rfl fun hget => ?_
    exact congrArg Instr.mtxCommit (hget _ List.mem_cons_self)
  | sync s0 s1 s2 s3 =>
    refine sized [⟨c.field.sync.get 0, 2, s0⟩, ⟨c.field.sync.get 1, 2, s1⟩, ⟨c.field.sync.get 2, 2, s2⟩,
      ⟨c.field.sync.get 3, 2, s3⟩] hc (vector_four_toList _) rfl (fun _ => of_decide_eq_true) rfl rfl rfl fun hget => ?_
    simp only [List.forall_mem_cons] at hget
    obtain ⟨h0, h1, h2, h3, -⟩ := hget
    simp only [Instr.mnemonic, Cfg.operands, h0, h1, h2, h3]
  | vpRecall n p q =>
    simp only [Instr.wf, Bool.and_eq_true] at h
    obtain ⟨⟨hn, hp⟩, hq⟩ := h
    refine fields [(c.field.vpRecallN, n), (c.field.vpRecallP, p), (c.field.vpRecallQ, q)] hc
      ⟨rfl, fun _ => of_decide_eq_true, by simp [hn, hp, hq]⟩ rfl rfl rfl fun hget => ?_
    simp only [List.forall_mem_cons] at hget
    obtain ⟨hgetN, hgetP, hgetQ, -⟩ := hget
    simp only [Instr.mnemonic, Cfg.operands, hgetN, hgetP, hgetQ]
  | colorCommit | colorRecall =>
    refine color _ hc rfl h (fun _ => rfl) rfl rfl fun hcount hmodifier => ?_
    simp only [Instr.mnemonic, Cfg.operands, hcount, hmodifier]
  | _ =>
    simp only [Instr.wf, Bool.and_eq_true] at h
    obtain ⟨hlen, htail⟩ := h
    exact plain hc rfl (attrOk_zero hc _) htail (of_decide_eq_true hlen) rfl

end Cfg.Encodes

/-- Settles O1: a well-formed instruction's encoding is accepted, and its operands are read back. -/
theorem decodeInvertsEncode : Obligations.DecodeInvertsEncode := by
  intro c i rest hc hi
  have h := Cfg.Encodes.of_wf hc hi
  exact (c.decode_eq_ok_iff _ rest i).mpr ⟨i.mnemonic, c.encode i, rfl, h.accepts, h.operands⟩

end Sys2Proof
end

section
/-! Fetch and decode in a step (R89, R90, R102, R105), and the targets of JUMP and CALL (R85, R121, R122). -/

namespace Sys2Proof.Machine

/-! ## Single words (R90) -/

/-- The opcode of Nop is fixed, so no configuration gives it to another mnemonic first (R90). -/
theorem mnemonicOf_opcode_zero (c : Cfg) {w0 : Word} (h : w0.extractLsb' 0 12 = 0) : c.mnemonicOf w0 = some .NOP := by
  rw [← BitVec.setWidth_eq_extractLsb' (by decide : 12 ≤ 32)] at h
  simp [Cfg.mnemonicOf, Mnemonic.all, Cfg.opcode, Mnemonic.fixedOpcode, h]

/-- A word has its opcode and the bits that Nop reserves, and no other. -/
theorem and_nopMask_eq_zero_iff {w : Word} (h : w.extractLsb' 0 12 = 0) : w &&& 0xFFFFF000 = 0 ↔ w = 0 := by
  refine ⟨fun hhigh => BitVec.eq_of_getLsbD_eq fun i hi => ?_, fun hw => hw.symm ▸ BitVec.zero_and⟩
  have hmask : (0xFFFFF000 : Word).getLsbD i = !decide (i < 12) := by
    rw [show (0xFFFFF000 : Word) = ~~~0xFFF from rfl, BitVec.getLsbD_not, getLsbD_opcodeMask]
    simp [hi]
  by_cases hop : i < 12
  · have hbit : (w.extractLsb' 0 12).getLsbD i = false := by simp [h]
    simpa [hop] using hbit
  · have hbit : (w &&& 0xFFFFF000).getLsbD i = false := by rw [hhigh]; exact BitVec.getLsbD_zero
    rw [BitVec.getLsbD_and, hmask] at hbit
    simpa [hop] using hbit

/-- Settles O4: the one word of a Nop is checked against the bits above its opcode. -/
theorem nopIsTheZeroWord : Obligations.NopIsTheZeroWord := by
  intro c w0 rest h
  have hname := mnemonicOf_opcode_zero c h
  by_cases hw : w0 = 0
  · have haccepts : c.Accepts .NOP [w0] := ⟨hname, rfl, if_pos ((and_nopMask_eq_zero_iff h).mpr hw)⟩
    rw [if_pos hw]
    exact (c.decode_eq_ok_iff _ rest _).mpr ⟨.NOP, [w0], rfl, haccepts, rfl⟩
  · have hreserved : c.firstReserved .NOP 0 [w0] = some (0, w0) := if_neg (mt (and_nopMask_eq_zero_iff h).mp hw)
    have hlength : (c.format .NOP).words = 1 := rfl
    rw [if_neg hw]
    simp [Cfg.decode, hname, hlength, hreserved]

/-- Settles O5: the decoder evaluates on the words of the spec. -/
theorem specWordsDecode : Obligations.SpecWordsDecode := by
  unfold Obligations.SpecWordsDecode
  decide +kernel

/-! ## A step that does not decode (R89, R102, R105) -/

/-- A step inside an `Exec` whose fetch fails ends the `Exec` with that fault (R102, R294). -/
theorem step_of_fetch_error {s : State} {b : Nat} {r : FaultReason} (hs : InExec s b) (h : fetch s = .error r) :
    step s = .next (endedByFault r s) := by
  obtain ⟨hbudget, hrun, hfault⟩ := hs
  have hloop : loopRuns (b + 1) s = true := (loopRuns_iff _ _).mpr ⟨hfault, hrun, by simp⟩
  have hended : decodeFault r s = endedByFault r s := by
    rw [decodeFault, raise_eq_of_none s r hfault]
    rfl
  rw [step_inside s hbudget, execStep, if_pos hloop, cpStep, h, ← hended]

/-- Settles O6: the table has no mnemonic for the word, so the fetch fails before it reads on. -/
theorem unknownOpcodeFaults : Obligations.UnknownOpcodeFaults := by
  intro s b hs h
  refine step_of_fetch_error hs ?_
  rw [fetch, (s.cfg.mnemonicOf_eq_none_iff _).mpr h]

theorem wordAt_fetchWords {s : State} {m : Mnemonic} {j : Nat} (hj : j < (s.cfg.format m).words) :
    wordAt (fetchWords s m) j = memRead s (s.pc + BitVec.ofNat 32 (4 * j)) := by
  simp [wordAt, fetchWords, hj]

/-- Settles O7: the fetch checks the window first, then the words in order. -/
theorem fetchAndReservedBitsFault : Obligations.FetchAndReservedBitsFault := by
  intro s b m hs
  refine ⟨fun hm hwin => step_of_fetch_error hs ?outside, fun j hwhole hj hset hclear => step_of_fetch_error hs ?reserved⟩
  case outside => simp only [fetch, hm, hwin, Bool.false_eq_true, if_false]
  case reserved =>
    obtain ⟨hm, hwin⟩ := hwhole
    have hfirst : s.cfg.firstReserved m 0 (fetchWords s m) = some (j, wordAt (fetchWords s m) j) := by
      have hsome := Cfg.firstReserved_eq_some (c := s.cfg) (m := m) (ws := fetchWords s m) (i := 0) (j := j)
      simp only [Nat.zero_add] at hsome
      refine hsome (by simpa [fetchWords] using hj) ?_ fun k hk => ?_
      · rwa [wordAt_fetchWords hj]
      · rw [wordAt_fetchWords (hk.trans hj), hclear k hk]
    rw [wordAt_fetchWords hj] at hfirst
    simp only [fetch, hm, hwin, if_true, hfirst]

/-! ## JUMP and CALL (R121, R122) -/

theorem targetOf_eq_mul (w1 : Word) : targetOf w1 = w1 * 4 := by
  simp only [targetOf]
  bv_omega

theorem inWindow_iff (base a : Word) :
    inWindow base a = true ↔ base.toNat ≤ a.toNat ∧ a.toNat < base.toNat + 0x400000 := by
  simp only [inWindow, Bool.and_eq_true, decide_eq_true_eq]
  rfl

/-- A move to a target that must lie in a window: the pc takes the target, or the fault is recorded (R85, R294). -/
theorem goOrRaise_eq {t : State} {r : FaultReason} (base a : Word) (h : t.fault = none) :
    (if inWindow base a = true then (.next (setPc a t) : Host.Outcome State Fault Refusal) else .next (raise r t))
      = .next (if base.toNat ≤ a.toNat ∧ a.toNat < base.toNat + 0x400000 then { t with pc := a }
          else { t with fault := some r }) := by
  rw [← raise_eq_of_none t r h, apply_ite Host.Outcome.next]
  exact if_congr (inWindow_iff base a) rfl rfl

/-- Settles O11: the target is four times the operand, and the window that of JUMP. -/
theorem jumpTakesItsTarget : Obligations.JumpTakesItsTarget := by
  intro s w1 hfault
  have hjump : exec (.jump w1) s = execJump w1 s := rfl
  rw [hjump, execJump, targetOf_eq_mul]
  exact goOrRaise_eq Config.wjBase (w1 * 4) hfault

/-- Settles O12: the push comes first, and the target is checked against the window of CALL on what it leaves. -/
theorem callPushesAndJumps : Obligations.CallPushesAndJumps := by
  intro s w1 hfault a pushed
  have hcall : exec (.call w1) s = execCall w1 s := rfl
  rw [hcall, execCall, targetOf_eq_mul]
  exact goOrRaise_eq (t := pushed) s.cfg.wcBase (w1 * 4) hfault

end Sys2Proof.Machine
end

section
/-! One turn of `Exec`'s loop (R101, R102): the step it is, what ends it, and that the budget left is no input of it. -/

namespace Sys2Proof.Machine

/-! ## The instructions that do nothing but move the pc (R120, R126, R127) -/

/-- Settles O10: the lengths of the three instructions are fixed. -/
theorem nopAndClearOnlyAdvance : Obligations.NopAndClearOnlyAdvance :=
  fun _ _ => ⟨rfl, rfl, rfl⟩

/-! ## The loop's test (R101) -/

theorem continueExec_of_runs {b : Nat} {s : State} (h : loopRuns b s = true) :
    continueExec b s = { s with budget := some b } := if_pos h

/-- A faulted device ends the `Exec` (R101, R294). -/
theorem continueExec_of_faulted (b : Nat) {s : State} (h : s.fault.isSome = true) : continueExec b s = endExec s := by
  obtain ⟨-, hfault, -⟩ | hend := continueExec_cases b s
  · simp [hfault] at h
  · exact hend

/-- A stopped CP ends the `Exec` (R101, R107). -/
theorem continueExec_of_stopped (b : Nat) {s : State} (h : s.running = false) : continueExec b s = endExec s := by
  obtain ⟨-, -, hrun, -⟩ | hend := continueExec_cases b s
  · simp [h] at hrun
  · exact hend

@[simp] theorem continueExec_running (b : Nat) (s : State) : (continueExec b s).running = s.running := by
  obtain ⟨h, -⟩ | h := continueExec_cases b s <;> rw [h]
  rfl

/-! ## What follows an instruction (R101, R106, R107) -/

theorem checkInvariant_of_none {s : State} (h : invariantFault s = none) : checkInvariant s = s := by
  rw [checkInvariant, h]

theorem checkInvariant_of_some {s : State} {r : FaultReason} (h : invariantFault s = some r) :
    checkInvariant s = raise r s := by
  rw [checkInvariant, h]

@[simp] theorem checkInvariant_running (s : State) : (checkInvariant s).running = s.running := by
  obtain ⟨h, -⟩ | ⟨r, -, h⟩ := checkInvariant_cases s <;> rw [h]
  rfl

@[simp] theorem checkInvariant_budget (s : State) : (checkInvariant s).budget = s.budget := by
  obtain ⟨h, -⟩ | ⟨r, -, h⟩ := checkInvariant_cases s <;> rw [h]
  rfl

@[simp] theorem afterExecute_running (i : Instr) (b : Nat) (s : State) : (afterExecute i b s).running = s.running := by
  unfold afterExecute
  dsimp only
  split <;> simp

/-- A check that fails ends the `Exec` before completion processing, whatever the instruction (R106, R124). -/
theorem afterExecute_of_invariantFault {s : State} {r : FaultReason} (i : Instr) (b : Nat) (hfault : s.fault = none)
    (h : invariantFault s = some r) : afterExecute i b s = endedByFault r s := by
  have hraised : (raise r s).fault.isSome = true := raise_fault_isSome s r
  have hskip : ¬ (i.isTerminal && (raise r s).fault.isNone) = true := by
    simp [Option.isNone_iff_eq_none, Option.isSome_iff_ne_none.mp hraised]
  rw [afterExecute, checkInvariant_of_some h, if_neg hskip, continueExec_of_faulted b hraised,
    raise_eq_of_none s r hfault]
  rfl

/-! ## A step inside an `Exec` (R101) -/

/-- Inside an `Exec` a step is one turn of its loop. -/
theorem InExec.step_eq {s : State} {b : Nat} (h : InExec s b) : step s = cpStep b s := by
  obtain ⟨hbudget, hrun, hfault⟩ := h
  have hloop : loopRuns (b + 1) s = true := (loopRuns_iff _ _).mpr ⟨hfault, hrun, by simp⟩
  rw [step_inside s hbudget, execStep, if_pos hloop, Nat.add_sub_cancel]

theorem cpStep_of_exec {s t : State} {i : Instr} (b : Nat) (hf : fetch s = .ok i) (hexec : exec i s = .next t) :
    cpStep b s = .next (afterExecute i b t) := by
  simp only [cpStep, hf, hexec]

theorem InExec.step_of_exec {s t : State} {b : Nat} {i : Instr} (h : InExec s b) (hf : fetch s = .ok i)
    (hexec : exec i s = .next t) : step s = .next (afterExecute i b t) :=
  h.step_eq.trans (cpStep_of_exec b hf hexec)

/-- Settles O9: the check tests the pc, then each stack pointer, and the first test that fails ends the `Exec`. -/
theorem invariantCheckFaultsInOrder : Obligations.InvariantCheckFaultsInOrder := by
  intro s t b i hs hf hexec hfault
  have ended {r : FaultReason} (h : invariantFault t = some r) : step s = .next (endedByFault r t) := by
    rw [hs.step_of_exec hf hexec, afterExecute_of_invariantFault i b hfault h]
  refine ⟨fun hpc => ended ?_, fun hpc hsp0 => ended ?_, fun hpc hsp0 hsp1 => ended ?_⟩
  · simp [invariantFault, hpc]
  · simp [invariantFault, hpc, hsp0]
  · simp [invariantFault, hpc, hsp0, hsp1]

/-! ## The bytes at the pc (R61, R92, R102) -/

/-- The words of command RAM from `a` on. -/
def wordsFrom (s : State) (a : Word) (n : Nat) : List Word :=
  (List.range n).map fun j => memRead s (a + BitVec.ofNat 32 (4 * j))

theorem fetchWords_eq_wordsFrom (s : State) (m : Mnemonic) :
    fetchWords s m = wordsFrom s s.pc (s.cfg.format m).words := rfl

theorem bytesAt_add (s : State) (a : Word) (m n : Nat) :
    bytesAt s a (m + n) = bytesAt s a m ++ bytesAt s (a + BitVec.ofNat 32 m) n := by
  simp [bytesAt, List.range_add, Function.comp_def, BitVec.ofNat_add, BitVec.add_assoc]

theorem wordsFrom_succ (s : State) (a : Word) (n : Nat) :
    wordsFrom s a (n + 1) = memRead s a :: wordsFrom s (a + 4) n := by
  have hnext (j : Nat) : a + BitVec.ofNat 32 (4 * (j + 1)) = a + 4 + BitVec.ofNat 32 (4 * j) := by
    rw [Nat.mul_succ, Nat.add_comm, BitVec.ofNat_add, ← BitVec.add_assoc]
    rfl
  simp [wordsFrom, List.range_succ_eq_map, Function.comp_def, hnext]

/-- The first four bytes make the word that a read gives (R61). -/
theorem wordsOfBytes_bytesAt_four (s : State) (a : Word) (bs : List Byte) :
    s.cfg.wordsOfBytes (bytesAt s a 4 ++ bs) = memRead s a :: s.cfg.wordsOfBytes bs := by
  have hbytes : bytesAt s a 4 = [s.readByte a, s.readByte (a + 1), s.readByte (a + 2), s.readByte (a + 3)] := by
    simp [bytesAt, List.range_succ]
  rw [hbytes]
  rfl

/-- The bytes of `n` words decode as the words that reads give (R60, R61). -/
theorem wordsOfBytes_bytesAt (s : State) (a : Word) (n : Nat) :
    s.cfg.wordsOfBytes (bytesAt s a (4 * n)) = wordsFrom s a n := by
  induction n generalizing a with
  | zero => rfl
  | succ n ih =>
    rw [Nat.mul_succ, Nat.add_comm, bytesAt_add, wordsOfBytes_bytesAt_four, ih, wordsFrom_succ]
    rfl

/-- The fetch of a whole instruction finds what the bytes at the pc decode to (R92, R102). -/
theorem fetch_of_decodeBytes {s : State} {m : Mnemonic} {i : Instr} (hwhole : WholeInstruction s m)
    (h : s.cfg.decodeBytes (bytesAt s s.pc (s.cfg.format m).bytes) = .ok (i, [])) : fetch s = .ok i := by
  obtain ⟨hm, hwin⟩ := hwhole
  have hwords : s.cfg.wordsOfBytes (bytesAt s s.pc (s.cfg.format m).bytes) = fetchWords s m :=
    wordsOfBytes_bytesAt s s.pc _
  rw [Cfg.decodeBytes, hwords] at h
  obtain ⟨m', us, hus, ⟨hm', -, hreserved⟩, hoperands⟩ := (s.cfg.decode_eq_ok_iff _ _ _).mp h
  rw [List.append_nil] at hus
  subst hus
  have hfirst : wordAt (fetchWords s m) 0 = memRead s s.pc := by
    rw [wordAt_fetchWords (Format.words_pos _)]
    simp
  obtain rfl : m = m' := Option.some.inj (by rw [← hm, ← hfirst, hm'])
  simp only [fetch, hm, hwin, if_true, hreserved, hoperands]

/-- Settles O8: the fetch finds the decoded instruction, and a turn of the loop runs what the fetch finds. -/
theorem stepRunsDecodedInstruction : Obligations.StepRunsDecodedInstruction := by
  intro s b m i hs hwhole h
  have hf := fetch_of_decodeBytes hwhole h
  rw [hs.step_eq]
  cases hexec : exec i s with
  | next t => exact cpStep_of_exec b hf hexec
  | fault r | refused r => simp only [cpStep, hf, hexec]

end Sys2Proof.Machine
end

section
/-! KILL and the end of a CP run (R107, R110, R124). -/

namespace Sys2Proof.Machine

/-- What KILL makes of a state (R124). -/
def killed (s : State) : State := { s with running := false, pc := s.pc + 4 }

theorem exec_kill (s : State) : exec .kill s = .next (killed s) := rfl

/-- KILL is the only terminal instruction (R107). -/
theorem eq_kill_of_isTerminal {i : Instr} (h : i.isTerminal = true) : i = .kill := of_decide_eq_true h

/-- After a KILL that passes the check, completion processing is done and the `Exec` ends (R101, R107). -/
theorem afterExecute_kill {s : State} (b : Nat) (hfault : s.fault = none) (h : invariantFault (killed s) = none) :
    afterExecute .kill b (killed s) = endExec (complete (killed s)) := by
  have hdone : (Instr.kill.isTerminal && (killed s).fault.isNone) = true := by simp [Instr.isTerminal, killed, hfault]
  rw [afterExecute, checkInvariant_of_none h, if_pos hdone]
  exact continueExec_of_stopped b rfl

/-- A step inside an `Exec` that leaves the CP stopped and unfaulted ran KILL (R25, R124). -/
theorem InExec.completes {s t : State} {b : Nat} (hs : InExec s b) (h : step s = .next t) (hstop : t.running = false)
    (hfault : t.fault = none) : Completes s t := by
  have ⟨_, hrun, _⟩ := hs
  obtain ⟨r, -, rfl⟩ | ⟨i, u, hf, hexec, rfl⟩ := cpStep_cases (hs.step_eq.symm.trans h)
  · have hraised : (raise r s).fault.isSome = true := raise_fault_isSome s r
    have hnone : (raise r s).fault = none := hfault
    simp [hnone] at hraised
  · have hterminal : i.isTerminal = true := by
      rw [afterExecute_running, exec_running hexec, hrun] at hstop
      simpa using hstop
    rw [eq_kill_of_isTerminal hterminal] at hf
    exact ⟨⟨b, hs⟩, hf, h, hfault⟩

/-- The last step of a run that ends normally leaves what completion processing does (R107, R110). -/
theorem Completes.eq {s t : State} (h : Completes s t) : t = endExec (complete (killed s)) := by
  obtain ⟨⟨b, hs⟩, hf, hstep, hnone⟩ := h
  have ⟨_, _, hfault⟩ := hs
  rw [hs.step_of_exec hf (exec_kill s)] at hstep
  obtain rfl := Host.Outcome.next.inj hstep
  cases hcheck : invariantFault (killed s) with
  | none => exact afterExecute_kill b hfault hcheck
  | some r =>
    rw [afterExecute_of_invariantFault (s := killed s) .kill b hfault hcheck] at hnone
    cases hnone

/-- Settles O16, by the one step that completes: its state is stopped, so no run that goes on is there. -/
theorem killEndsTheExec : Obligations.KillEndsTheExec := by
  refine ⟨exec_kill, fun s b hs hf hpc hsp0 hsp1 => ?step,
    fun b s t k hrun hs hstep hstop hfault => ⟨s, hrun, hs.completes hstep hstop hfault⟩,
    fun b t ⟨s, hrun, hdone⟩ => ?ended, fun b t ⟨_, hfault, hrunning⟩ => ⟨?notNormal, fun ⟨_, hne⟩ => hne hfault⟩⟩
  case step =>
    have ⟨_, _, hfault⟩ := hs
    have hpass : invariantFault (killed s) = none := (invariantFault_eq_none_iff _).mpr ⟨hpc, hsp0, hsp1⟩
    rw [hs.step_of_exec hf (exec_kill s), afterExecute_kill b hfault hpass]
    rfl
  case ended =>
    have ⟨_, _, _, hfault⟩ := hdone
    obtain rfl := hdone.eq
    exact ⟨s, hrun, rfl, rfl, hfault, rfl⟩
  case notNormal =>
    rintro ⟨s, -, hdone⟩
    obtain rfl := hdone.eq
    cases hrunning

end Sys2Proof.Machine
end

section
/-! The steps of the machine against `Exec(cycles)` as one operation (R101). The operation knows no budget field, so the core
of the argument is that a turn of the loop does not read it (`cpStep_with_budget`). -/

namespace Sys2Proof.Machine

/-! ## The budget is no input of an instruction (R26) -/

theorem emitTriangle_with_budget (u0 u1 u2 : UV) (s : State) (x : Option Nat) :
    emitTriangle u0 u1 u2 { s with budget := x } = (emitTriangle u0 u1 u2 s).map fun t => { t with budget := x } := by
  have hpos (i : Fin 3) : recentPos { s with budget := x } i = recentPos s i := rfl
  simp only [emitTriangle, hpos]
  split <;> rfl

theorem texCoord_with_budget (m : Mnemonic) (w0 w1 w2 : Word) (s : State) (x : Option Nat) :
    ∃ t, texCoord m w0 w1 w2 s = .next t ∧ texCoord m w0 w1 w2 { s with budget := x } = .next { t with budget := x } := by
  simp only [texCoord, emitTriangle_with_budget]
  cases emitTriangle (uvDecode s.cfg w0) (uvDecode s.cfg w1) (uvDecode s.cfg w2) s <;> exact ⟨_, rfl, rfl⟩

/-- Every instruction answers a next state, and the same one whatever budget is left. -/
theorem exec_with_budget (i : Instr) (s : State) (x : Option Nat) :
    ∃ t, exec i s = .next t ∧ exec i { s with budget := x } = .next { t with budget := x } := by
  cases i with
  | jump w1 =>
    simp only [exec, execJump]
    split <;> exact ⟨_, rfl, rfl⟩
  | call w1 =>
    simp only [exec, execCall]
    split <;> exact ⟨_, rfl, rfl⟩
  | sync s0 s1 s2 s3 =>
    simp only [exec, execSync]
    split <;> exact ⟨_, rfl, rfl⟩
  | vpCommit n =>
    simp only [exec, execVpCommit_eq]
    split <;> exact ⟨_, rfl, rfl⟩
  | texCoord0 w0 w1 w2 => exact texCoord_with_budget .TEXCOORD_0 w0 w1 w2 s x
  | texCoord1 w0 w1 w2 => exact texCoord_with_budget .TEXCOORD_1 w0 w1 w2 s x
  | _ => exact ⟨_, rfl, rfl⟩

theorem exec_next (i : Instr) (s : State) : ∃ t, exec i s = .next t := by
  obtain ⟨t, h, -⟩ := exec_with_budget i s none
  exact ⟨t, h⟩

theorem exec_budget {i : Instr} {s t : State} (h : exec i s = .next t) : t.budget = s.budget := by
  obtain ⟨-, -, -, -, -, -, -, -, hbudget, -⟩ := noInstructionChangesARegister i s t h
  exact hbudget

theorem checkInvariant_with_budget (s : State) (x : Option Nat) :
    checkInvariant { s with budget := x } = { checkInvariant s with budget := x } := by
  have hcheck : invariantFault { s with budget := x } = invariantFault s := rfl
  unfold checkInvariant
  rw [hcheck]
  split <;> rfl

/-- What follows an instruction sets the budget anew. -/
theorem afterExecute_with_budget (i : Instr) (b : Nat) (s : State) (x : Option Nat) :
    afterExecute i b { s with budget := x } = afterExecute i b s := by
  unfold afterExecute
  rw [checkInvariant_with_budget]
  dsimp only
  split <;> rfl

/-- A turn of the loop does not read the budget field. -/
theorem cpStep_with_budget (b : Nat) (s : State) (x : Option Nat) : cpStep b { s with budget := x } = cpStep b s := by
  have hfetch : fetch { s with budget := x } = fetch s := rfl
  cases hf : fetch s with
  | error r =>
    simp only [cpStep, hfetch, hf]
    rfl
  | ok i =>
    obtain ⟨t, ht, htx⟩ := exec_with_budget i s x
    rw [cpStep_of_exec b hf ht, cpStep_of_exec b (hfetch.trans hf) htx, afterExecute_with_budget]

/-! ## One turn of the loop and `Step()` (R101, R102) -/

theorem stepOnce_of_error {s : State} {r : FaultReason} (h : fetch s = .error r) : stepOnce s = (false, raise r s) := by
  rw [stepOnce, h]

theorem stepOnce_of_exec {s t : State} {i : Instr} (hf : fetch s = .ok i) (hexec : exec i s = .next t) :
    stepOnce s = (i.isTerminal, checkInvariant t) := by
  simp only [stepOnce, hf, hexec]

/-- `Step()` raises the fault of its fetch, or runs an instruction and makes the invariant check. -/
theorem stepOnce_cases (s : State) :
    (∃ r, fetch s = .error r ∧ stepOnce s = (false, raise r s))
      ∨ ∃ i t, fetch s = .ok i ∧ exec i s = .next t ∧ stepOnce s = (i.isTerminal, checkInvariant t) := by
  cases hf : fetch s with
  | error r => exact .inl ⟨r, rfl, stepOnce_of_error hf⟩
  | ok i =>
    obtain ⟨t, ht⟩ := exec_next i s
    exact .inr ⟨i, t, rfl, ht, stepOnce_of_exec hf ht⟩

theorem stepOnce_budget (s : State) : (stepOnce s).2.budget = s.budget := by
  obtain ⟨r, -, h⟩ | ⟨i, t, -, hexec, h⟩ := stepOnce_cases s <;> rw [h]
  · rfl
  · exact (checkInvariant_budget t).trans (exec_budget hexec)

/-- `Step()` returns `Terminal` only with the CP stopped (R107, R124). -/
theorem stepOnce_stopped {s : State} (h : (stepOnce s).1 = true) : (stepOnce s).2.running = false := by
  obtain ⟨r, -, hs⟩ | ⟨i, t, -, hexec, hs⟩ := stepOnce_cases s <;> rw [hs] at h ⊢
  · cases h
  · have hterminal : i.isTerminal = true := h
    simp [exec_running hexec, hterminal]

/-- A turn of the loop is `Step()`, completion processing when that returned `Terminal` unfaulted, and the loop's test. -/
theorem cpStep_eq_stepOnce (b : Nat) (s : State) :
    cpStep b s = .next (continueExec b
      (if (stepOnce s).1 && (stepOnce s).2.fault.isNone then complete (stepOnce s).2 else (stepOnce s).2)) := by
  obtain ⟨r, hf, h⟩ | ⟨i, t, hf, hexec, h⟩ := stepOnce_cases s <;> rw [h]
  · rw [Bool.false_and, if_neg Bool.false_ne_true, continueExec_of_faulted b (raise_fault_isSome s r), cpStep, hf]
    rfl
  · exact cpStep_of_exec b hf hexec

/-! ## The loop (R101) -/

/-- The loop runs nothing more on a stopped CP. -/
theorem execLoop_of_stopped (b : Nat) {s : State} (h : s.running = false) : execLoop b s = s := by
  cases b <;> simp [execLoop, h]

/-- With a unit left on a running CP, the loop makes one `Step()`, and goes on unless that faulted or returned `Terminal`. -/
theorem execLoop_succ (b : Nat) {s : State} (h : s.running = true) :
    execLoop (b + 1) s =
      if (stepOnce s).2.fault.isSome then (stepOnce s).2
      else if (stepOnce s).1 then complete (stepOnce s).2
      else execLoop b (stepOnce s).2 := by
  rw [execLoop, if_pos h]

theorem execLoop_budget (b : Nat) (s : State) : (execLoop b s).budget = s.budget := by
  induction b generalizing s with
  | zero => rfl
  | succ b ih =>
    cases hrun : s.running with
    | false => rw [execLoop_of_stopped _ hrun]
    | true =>
      rw [execLoop_succ b hrun]
      split_ifs
      · exact stepOnce_budget s
      · exact stepOnce_budget s
      · exact (ih _).trans (stepOnce_budget s)

theorem run_succ {s t : State} (k : Nat) (h : step s = .next t) :
    Host.Core.run core (k + 1) s = Host.Core.run core k t := by
  have hstep : core.step s = .next t := h
  simp only [Host.Core.run, hstep]

/-- A step from where the loop's test goes on is one turn of the loop. -/
theorem step_continueExec {b : Nat} {s : State} (hrun : s.running = true) (hfault : s.fault = none) :
    step (continueExec (b + 1) s) = cpStep b s := by
  have hinside : InExec { s with budget := some (b + 1) } b := ⟨rfl, hrun, hfault⟩
  rw [continueExec_of_runs ((loopRuns_iff _ _).mpr ⟨hfault, hrun, b.succ_ne_zero⟩), hinside.step_eq, cpStep_with_budget]

/-- From the loop's test on, at most one step for each unit of budget reaches what the loop gives. -/
theorem run_continueExec (b : Nat) {s : State} (hfault : s.fault = none) :
    ∃ k ≤ b, Host.Core.run core k (continueExec b s) = .next (endExec (execLoop b s)) := by
  induction b generalizing s with
  | zero => exact ⟨0, le_rfl, congrArg Host.Outcome.next (if_neg (by simp [loopRuns]))⟩
  | succ b ih =>
    cases hrun : s.running with
    | false =>
      rw [continueExec_of_stopped _ hrun, execLoop_of_stopped _ hrun]
      exact ⟨0, Nat.zero_le _, rfl⟩
    | true =>
      have hstep := (step_continueExec (b := b) hrun hfault).trans (cpStep_eq_stepOnce b s)
      rw [execLoop_succ b hrun]
      by_cases hraised : (stepOnce s).2.fault.isSome = true
      · have hskip : ¬ ((stepOnce s).1 && (stepOnce s).2.fault.isNone) = true := by
          simp [Option.isSome_iff_ne_none.mp hraised]
        rw [if_neg hskip, continueExec_of_faulted b hraised] at hstep
        rw [if_pos hraised]
        exact ⟨1, by omega, run_succ 0 hstep⟩
      · have hnone : (stepOnce s).2.fault = none := by simpa using hraised
        rw [if_neg hraised]
        cases hterminal : (stepOnce s).1 with
        | true =>
          have hstopped : (complete (stepOnce s).2).running = false := stepOnce_stopped hterminal
          rw [if_pos (by simp [hterminal, hnone]), continueExec_of_stopped b hstopped] at hstep
          exact ⟨1, by omega, run_succ 0 hstep⟩
        | false =>
          rw [if_neg (by simp [hterminal])] at hstep
          obtain ⟨k, hk, hreach⟩ := ih hnone
          exact ⟨k + 1, by omega, (run_succ k hstep).trans hreach⟩

/-! ## The operation (R101) -/

theorem endExec_of_budget {s : State} (h : s.budget = none) : endExec s = finish .done s := by
  rw [endExec, ← h]

theorem idmaStep_budget (s : State) : (idmaStep s).budget = s.budget := by
  obtain ⟨-, h⟩ | ⟨r, -, -, h⟩ | ⟨-, -, h⟩ | ⟨-, -, h⟩ := idmaStep_cases s <;> rw [h]
  · rfl
  · unfold idmaConsume
    dsimp only
    split <;> rfl

theorem execOperation_of_unfaulted (cycles : Nat) {s : State} (h : s.fault = none) :
    execOperation cycles s = if (idmaStep s).fault.isSome then idmaStep s else execLoop cycles (idmaStep s) := by
  rw [execOperation, h]

theorem execOperation_budget (cycles : Nat) {s : State} (h : s.fault = none) :
    (execOperation cycles s).budget = s.budget := by
  rw [execOperation_of_unfaulted cycles h]
  split
  · exact idmaStep_budget s
  · exact (execLoop_budget cycles _).trans (idmaStep_budget s)

/-- From the start of an `Exec` on, at most one step for each unit of budget reaches what the operation gives. -/
theorem run_startExec (cycles : Nat) {s : State} (h : s.fault = none) :
    ∃ k ≤ cycles, Host.Core.run core k (startExec cycles s) = .next (endExec (execOperation cycles s)) := by
  rw [startExec, execOperation_of_unfaulted cycles h]
  by_cases hraised : (idmaStep s).fault.isSome = true
  · rw [if_pos hraised, continueExec_of_faulted cycles hraised]
    exact ⟨0, Nat.zero_le _, rfl⟩
  · rw [if_neg hraised]
    exact run_continueExec cycles (by simpa using hraised)

/-- A step that calls `Exec` on `u` is the first of those that make up the operation on `u`: a faulted device answers in it,
any other starts the loop with it (R101, R294). -/
theorem run_exec {s u : State} {cycles : Nat} (hstep : step s = .next (onDevice (startExec cycles) u))
    (hbudget : u.budget = none) :
    ∃ k, 1 ≤ k ∧ k ≤ cycles + 1
      ∧ Host.Core.run core k s = .next (finish (if u.fault.isSome then .faulted else .done) (execOperation cycles u)) := by
  cases hfault : u.fault with
  | some r =>
    have hop : execOperation cycles u = u := by rw [execOperation, hfault]
    rw [onDevice_faulted _ _ hfault] at hstep
    rw [hop]
    exact ⟨1, le_rfl, by omega, run_succ 0 hstep⟩
  | none =>
    rw [onDevice_unfaulted _ _ hfault] at hstep
    obtain ⟨k, hk, hreach⟩ := run_startExec cycles hfault
    rw [endExec_of_budget ((execOperation_budget cycles hfault).trans hbudget)] at hreach
    exact ⟨k + 1, by omega, by omega, (run_succ k hstep).trans hreach⟩

/-- Settles O47: the call takes the operation off the inputs, and the steps from there on are its loop. -/
theorem stepsMakeUpExec : Obligations.StepsMakeUpExec := by
  intro s cycles rest hbudget hin
  exact run_exec (u := { s with inputs := rest }) ((step_between s hbudget).trans (hostStep_op s hin)) hbudget

end Sys2Proof.Machine
end

section
/-! The start writes (R100, R262, R263): which writes invoke `begin()`, and what it makes of the seeds. -/

namespace Sys2Proof.Machine

/-- A location whose write can invoke `begin()`: the start register, or the secondary busy/control register. -/
def startRegister (c : Cfg) (b : Block) (o : Nat) : Prop := (b, o) = (.b15, c.offStart) ∨ (b, o) = (.b1A, 0x24)

/-- What `begin()` asks of the seeds of `s` (R100, R106). -/
def GoodSeeds (s : State) : Prop :=
  codeAddress s.cfg (s.reg .b15 s.cfg.offPcSeed) = true ∧ codeAddress s.cfg (s.reg .b15 s.cfg.offSp0Seed) = true
    ∧ codeAddress s.cfg (s.reg .b15 s.cfg.offSp1Seed) = true

/-! ## `begin()` (R100) -/

theorem invariantFault_loadSeeds_eq_none_iff (s : State) : invariantFault (loadSeeds s) = none ↔ GoodSeeds s :=
  invariantFault_eq_none_iff (loadSeeds s)

theorem beginCp_of_good {s : State} (hfault : s.fault = none) (h : GoodSeeds s) : beginCp s = loadSeeds s := by
  rw [beginCp, hfault]
  exact checkInvariant_of_none ((invariantFault_loadSeeds_eq_none_iff s).mpr h)

/-- A bad seed faults (R106). -/
theorem beginCp_of_bad {s : State} (hfault : s.fault = none) (h : ¬ GoodSeeds s) : (beginCp s).fault.isSome = true := by
  obtain ⟨r, hr⟩ := Option.ne_none_iff_exists'.mp (mt (invariantFault_loadSeeds_eq_none_iff s).mp h)
  rw [beginCp, hfault]
  dsimp only
  rw [checkInvariant_of_some hr]
  exact raise_fault_isSome _ r

theorem beginCp_results (s : State) : (beginCp s).results = s.results := by
  unfold beginCp
  split
  · rfl
  · exact (checkInvariant_inputs_results (loadSeeds s)).2

/-! ## What a start write does (R252, R262, R263) -/

/-- The start register is neither the mask nor the status (R9). -/
theorem offStart_ne {c : Cfg} (h : c.wf = true) : c.offStart ≠ offMask ∧ c.offStart ≠ offStatus := by
  obtain ⟨hmask, hstatus⟩ := quiet_of_mem_offsets15 (c := c) (o := c.offStart) (by simp [Cfg.offsets15]) h
  exact ⟨fun heq => hmask (by rw [heq]; rfl), fun heq => hstatus (.inl (by rw [heq]; rfl))⟩

/-- A write to the start register is stored, and 3 invokes `begin()` (R262). -/
theorem writeEffect_offStart {s : State} (v : Word) (h : s.cfg.wf = true) :
    writeEffect .b15 s.cfg.offStart v s =
      if v = 3 then beginCp (setReg .b15 s.cfg.offStart v s) else setReg .b15 s.cfg.offStart v s := by
  obtain ⟨hmask, hstatus⟩ := offStart_ne h
  simp [writeEffect, write15, hmask, hstatus]

/-- A write to the secondary busy/control register is stored and invokes `begin()` (R263). -/
theorem writeEffect_busyControl (v : Word) (s : State) :
    writeEffect .b1A 0x24 v s = beginCp (setReg .b1A 0x24 v s) := rfl

theorem writeEffect_begins {s : State} {b : Block} {o : Nat} {v : Word} (hwf : s.cfg.wf = true)
    (h : startRegister s.cfg b o) (hv : b = .b1A ∨ v = 3) : writeEffect b o v s = beginCp (setReg b o v s) := by
  obtain heq | heq := h <;> cases heq
  · have hv3 : v = 3 := hv.resolve_left (by decide)
    rw [writeEffect_offStart v hwf, if_pos hv3]
  · exact writeEffect_busyControl v s

/-- The seeds' offsets are not the start register's (R9). -/
theorem offStart_ne_seeds {c : Cfg} (h : c.wf = true) :
    c.offStart ≠ c.offPcSeed ∧ c.offStart ≠ c.offSp0Seed ∧ c.offStart ≠ c.offSp1Seed := by
  simp only [Cfg.wf, Cfg.offsetsWf, Bool.and_eq_true, decide_eq_true_eq, List.nodup_cons] at h
  obtain ⟨⟨-, ⟨⟨-, -, -, hdistinct⟩, -⟩, -⟩, -⟩ := h
  simp only [Cfg.offsets15, List.nodup_cons, List.mem_cons, not_or] at hdistinct
  obtain ⟨⟨hpc, hsp0, hsp1, -⟩, -⟩ := hdistinct
  exact ⟨hpc, hsp0, hsp1⟩

/-- A store to a start register leaves the seeds as they were. -/
theorem reg_seeds_setReg {s : State} {b : Block} {o : Nat} (v : Word) (hwf : s.cfg.wf = true)
    (h : startRegister s.cfg b o) :
    (setReg b o v s).reg .b15 s.cfg.offPcSeed = s.reg .b15 s.cfg.offPcSeed
      ∧ (setReg b o v s).reg .b15 s.cfg.offSp0Seed = s.reg .b15 s.cfg.offSp0Seed
      ∧ (setReg b o v s).reg .b15 s.cfg.offSp1Seed = s.reg .b15 s.cfg.offSp1Seed := by
  obtain ⟨hpc, hsp0, hsp1⟩ := offStart_ne_seeds hwf
  obtain heq | heq := h <;> cases heq <;> simp [reg_setReg, hpc, hsp0, hsp1]

theorem goodSeeds_setReg_iff {s : State} {b : Block} {o : Nat} (v : Word) (hwf : s.cfg.wf = true)
    (h : startRegister s.cfg b o) : GoodSeeds (setReg b o v s) ↔ GoodSeeds s := by
  obtain ⟨hpc, hsp0, hsp1⟩ := reg_seeds_setReg v hwf h
  rw [GoodSeeds, setReg_cfg, hpc, hsp0, hsp1, GoodSeeds]

/-- The state that `begin()` loads after a start write (R100). -/
theorem loadSeeds_setReg {s : State} {b : Block} {o : Nat} (v : Word) (hwf : s.cfg.wf = true)
    (h : startRegister s.cfg b o) :
    loadSeeds (setReg b o v s) =
      { setReg b o v s with
        pc := s.reg .b15 s.cfg.offPcSeed
        sp := #v[s.reg .b15 s.cfg.offSp0Seed, s.reg .b15 s.cfg.offSp1Seed]
        running := true, ring := #v[none, none, none], cursor := 0 } := by
  obtain ⟨hpc, hsp0, hsp1⟩ := reg_seeds_setReg v hwf h
  rw [← hpc, ← hsp0, ← hsp1]
  rfl

/-! ## The write access (R252) -/

section

variable {s : State} {addr v : Word} {n : Nat} {b : Block} {o : Nat}

theorem regWrite_of_busDecode (h : busDecode s.cfg addr n = some (b, o)) :
    regWrite addr n v s = finish (writeResult (writeEffect b o v s)) (writeEffect b o v s) := by
  rw [regWrite, h]

/-- A write access that does not fault answers `ok`. -/
theorem regWrite_unfaulted {t : State} (hbus : busDecode s.cfg addr n = some (b, o)) (h : writeEffect b o v s = t)
    (hfault : t.fault = none) : regWrite addr n v s = finish .ok t := by
  rw [regWrite_of_busDecode hbus, h, writeResult, hfault]
  rfl

/-- A value other than 3 is stored in the start register and starts nothing (R262). -/
theorem regWrite_offStart_of_ne (hwf : s.cfg.wf = true) (hfault : s.fault = none)
    (hbus : busDecode s.cfg addr n = some (.b15, s.cfg.offStart)) (hv : v ≠ 3) :
    regWrite addr n v s = finish .ok (setReg .b15 s.cfg.offStart v s) :=
  regWrite_unfaulted hbus ((writeEffect_offStart v hwf).trans (if_neg hv)) hfault

/-- A start write with good seeds loads them (R100). -/
theorem regWrite_start_of_good (hwf : s.cfg.wf = true) (hfault : s.fault = none)
    (hbus : busDecode s.cfg addr n = some (b, o)) (hreg : startRegister s.cfg b o) (hv : b = .b1A ∨ v = 3)
    (hgood : GoodSeeds s) : regWrite addr n v s = finish .ok (loadSeeds (setReg b o v s)) := by
  have hbegin : beginCp (setReg b o v s) = loadSeeds (setReg b o v s) :=
    beginCp_of_good hfault ((goodSeeds_setReg_iff v hwf hreg).mpr hgood)
  exact regWrite_unfaulted hbus ((writeEffect_begins hwf hreg hv).trans hbegin) hfault

/-- A start write with a bad seed faults and says so (R106, R252). -/
theorem regWrite_start_of_bad (hwf : s.cfg.wf = true) (hfault : s.fault = none)
    (hbus : busDecode s.cfg addr n = some (b, o)) (hreg : startRegister s.cfg b o) (hv : b = .b1A ∨ v = 3)
    (hbad : ¬ GoodSeeds s) :
    (regWrite addr n v s).fault ≠ none ∧ (regWrite addr n v s).results = s.results ++ [.faulted] := by
  have hraised : (beginCp (setReg b o v s)).fault ≠ none :=
    Option.isSome_iff_ne_none.mp (beginCp_of_bad hfault (mt (goodSeeds_setReg_iff v hwf hreg).mp hbad))
  have hfaulted : writeResult (beginCp (setReg b o v s)) = .faulted := by simp [writeResult, hraised]
  rw [regWrite_of_busDecode hbus, writeEffect_begins hwf hreg hv, hfaulted]
  exact ⟨hraised, congrArg (· ++ _) (beginCp_results _)⟩

end

/-- Settles O54: the write is stored first, and `begin()` then reads seeds that the store did not touch. -/
theorem startWritesBegin : Obligations.StartWritesBegin := by
  intro s addr v b o rest hwf hcall hbus hreg pcSeed sp0 sp1 stored
  have hstep := hcall.step_regWrite
  have hfault := hcall.unfaulted
  refine ⟨fun hb hv => ?stores, fun hv => ⟨fun hgood => ?begins, fun hbad => ⟨_, hstep, ?faults⟩⟩⟩
  case stores =>
    subst hb
    obtain heq | heq := hreg <;> cases heq
    exact hstep.trans (congrArg _ (regWrite_offStart_of_ne hwf hfault hbus hv))
  case begins =>
    have hwrite := regWrite_start_of_good (s := { s with inputs := rest }) hwf hfault hbus hreg hv hgood
    rw [loadSeeds_setReg (s := { s with inputs := rest }) v hwf hreg] at hwrite
    exact hstep.trans (congrArg _ hwrite)
  case faults => exact regWrite_start_of_bad hwf hfault hbus hreg hv hbad

end Sys2Proof.Machine
end

section
/-! CALL and RET as a pair (R122, R123), and SYNC (R125). -/

namespace Sys2Proof.Machine

/-! ## A stack pointer moved down a word and up again (R122, R123) -/

/-- What the masks of R122 and R123 make of two words: bits 31:24 of the one, bits 23:0 of the other. -/
theorem high8_or_low24_eq_append (x y : Word) :
    (x &&& 0xFF000000) ||| (y &&& 0x00FFFFFF) = x.extractLsb' 24 8 ++ y.extractLsb' 0 24 := by
  have hhigh : (0xFF000000 : Word) = BitVec.allOnes 8 ++ 0#24 := rfl
  have hlow : (0x00FFFFFF : Word) = 0#8 ++ BitVec.allOnes 24 := rfl
  have hparts (z : Word) : z = z.extractLsb' 24 8 ++ z.extractLsb' 0 24 :=
    (BitVec.extractLsb'_append_extractLsb' (w := 8) (len := 24)).symm
  conv_lhs => rw [hparts x, hparts y, hhigh, hlow]
  rw [BitVec.and_append, BitVec.and_append, BitVec.or_append, BitVec.and_allOnes, BitVec.and_zero, BitVec.and_zero,
    BitVec.and_allOnes, BitVec.or_zero, BitVec.zero_or]

theorem spDown_eq_append (a : Word) : spDown a = a.extractLsb' 24 8 ++ (a - 4).extractLsb' 0 24 :=
  high8_or_low24_eq_append a (a - 4)

theorem spUp_eq_append (a : Word) : spUp a = a.extractLsb' 24 8 ++ (a + 4).extractLsb' 0 24 :=
  high8_or_low24_eq_append a (a + 4)

/-- The low 24 bits of a sum are the sum of the low 24 bits: no carry comes down from bits 31:24. -/
theorem low24_add (x y : Word) :
    (x + y).extractLsb' 0 24 = x.extractLsb' 0 24 + y.extractLsb' 0 24 := by
  simp only [← BitVec.setWidth_eq_extractLsb' (by decide : 24 ≤ 32)]
  exact BitVec.setWidth_add x y (by decide)

/-- A pop undoes a push, at the wrap of the low 24 bits too. -/
theorem spUp_spDown (a : Word) : spUp (spDown a) = a := by
  have hhigh : (spDown a).extractLsb' 24 8 = a.extractLsb' 24 8 := by
    rw [spDown_eq_append, BitVec.extractLsb'_append_eq_left]
  have hlow : (spDown a).extractLsb' 0 24 = (a - 4).extractLsb' 0 24 := by
    rw [spDown_eq_append, BitVec.extractLsb'_append_eq_right]
  calc spUp (spDown a)
      = a.extractLsb' 24 8 ++ ((a - 4) + 4).extractLsb' 0 24 := by
        rw [spUp_eq_append, hhigh, low24_add, hlow, ← low24_add]
    _ = a.extractLsb' 24 8 ++ a.extractLsb' 0 24 := by rw [BitVec.sub_add_cancel]
    _ = a := BitVec.extractLsb'_append_extractLsb'

/-! ## The active stack pointer written (R23) -/

@[simp] theorem activeSp_setActiveSp (v : Word) (s : State) : (setActiveSp v s).activeSp = v := by
  simp [State.activeSp, Vector.get_eq_getElem]

@[simp] theorem setActiveSp_setActiveSp (v w : Word) (s : State) :
    setActiveSp v (setActiveSp w s) = setActiveSp v s := by
  simp [setActiveSp, Vector.set_set]

/-- Writing back the active stack pointer changes nothing. -/
@[simp] theorem setActiveSp_activeSp (s : State) : setActiveSp s.activeSp s = s := by
  simp [setActiveSp, State.activeSp, Vector.get_eq_getElem]

/-! ## CALL and RET (R122, R123) -/

theorem exec_call_of_inWc {w1 : Word} {s : State} (h : inWc s.cfg (targetOf w1) = true) :
    exec (.call w1) s = .next (setPc (targetOf w1) (pushCall s)) :=
  if_pos h

theorem exec_ret (s : State) :
    exec .ret s = .next (setPc (memRead s (spUp s.activeSp) + 8) (setActiveSp (spUp s.activeSp) s)) := rfl

/-- Settles O14: the word is read at the pointer that has gone up. -/
theorem retPopsItsReturnAddress : Obligations.RetPopsItsReturnAddress := exec_ret

@[simp] theorem activeSp_pushCall (s : State) : (pushCall s).activeSp = spDown s.activeSp :=
  activeSp_setActiveSp _ _

/-- With the active stack pointer as it was, a push has only stored its word. -/
theorem setActiveSp_pushCall (s : State) : setActiveSp s.activeSp (pushCall s) = memWrite s.activeSp s.pc s :=
  (setActiveSp_setActiveSp _ _ _).trans (setActiveSp_activeSp (memWrite s.activeSp s.pc s))

/-- RET after a push goes 8 past the address pushed, wherever the pc was, and of the push the stored word alone stays. -/
theorem exec_ret_of_pushCall {s : State} (t : Word) (h : (wordLocations s.cfg s.activeSp).Nodup) :
    exec .ret (setPc t (pushCall s)) = .next (setPc (s.pc + 8) (memWrite s.activeSp s.pc s)) := by
  have hpointer : spUp (setPc t (pushCall s)).activeSp = s.activeSp :=
    (congrArg spUp (activeSp_pushCall s)).trans (spUp_spDown s.activeSp)
  have hword : memRead (setPc t (pushCall s)) s.activeSp = s.pc := memRead_memWrite_same s s.activeSp s.pc h
  rw [exec_ret, hpointer, hword, ← setActiveSp_pushCall]
  rfl

/-- Settles O15: the pointer goes down and up again, so RET reads the word that CALL stored. -/
theorem callThenRetReturns : Obligations.CallThenRetReturns := by
  intro s w1 htarget hnodup
  rw [← targetOf_eq_mul] at htarget
  have hcall := exec_call_of_inWc htarget
  have hret := exec_ret_of_pushCall (targetOf w1) hnodup
  exact ⟨setPc (s.pc + 8) (memWrite s.activeSp s.pc s), by simp only [execAll, hcall, hret], rfl, rfl⟩

/-! ## SYNC (R125) -/

theorem syncValid_iff (c : Cfg) (s0 s1 s2 s3 : BitVec 2) :
    syncValid c s0 s1 s2 s3 = true ↔ s3 ++ s2 ++ s1 ++ s0 ∉ c.syncIllegal := by
  simp [syncValid, syncFields]

/-- Settles O18, by whether the combination is legal. -/
theorem syncAdvancesOrFaults : Obligations.SyncAdvancesOrFaults := by
  intro s s0 s1 s2 s3 hfault
  have hsync : exec (.sync s0 s1 s2 s3) s = execSync s0 s1 s2 s3 s := rfl
  rw [hsync, execSync]
  by_cases hillegal : s3 ++ s2 ++ s1 ++ s0 ∈ s.cfg.syncIllegal
  · rw [if_neg fun hvalid => (syncValid_iff ..).mp hvalid hillegal, if_pos hillegal, raise_eq_of_none s _ hfault]
    rfl
  · rw [if_pos ((syncValid_iff ..).mpr hillegal), if_neg hillegal]
    rfl

end Sys2Proof.Machine
end

section
/-! The viewport instructions (R141 to R151), and the color, texture and matrix instructions that only move the pc (R160 to R172,
R185). -/

namespace Sys2Proof.Machine

/-! ## Viewport Set (R143 to R149) -/

/-- What Viewport Set of part `k` makes of a state (R143). -/
def stagedViewport (k : Fin 6) (m : Mnemonic) (attr : BitVec 20) (ws : List Word) (s : State) : State :=
  advance m (setVpPart k (vpWords s.cfg m attr ws) s)

theorem exec_vpSet0 (attr : BitVec 20) (ws : List Word) (s : State) :
    exec (.vpSet0 attr ws) s = .next (stagedViewport 0 .VP_SET_0 attr ws s) := rfl

theorem ofNat_bytes_vpSetFormat (c : Cfg) (k : Fin 6) : BitVec.ofNat 32 (c.vpSetFormat k).bytes = vpSetBytes c k := by
  unfold Cfg.vpSetFormat vpSetBytes
  cases c.lenVpSet.get k <;> rfl

/-- Viewport Set writes its part and moves the pc on by `LEN_VPSET` of that part, and does nothing else. -/
theorem stagedViewport_eq {k : Fin 6} {m : Mnemonic} {s : State} (attr : BitVec 20) (ws : List Word)
    (hlen : s.cfg.format m = s.cfg.vpSetFormat k) :
    stagedViewport k m attr ws s = { s with
      vpScratch := s.vpScratch.set k (some ((attr ++ s.cfg.opcode m : Word) :: ws)), pc := s.pc + vpSetBytes s.cfg k } := by
  rw [← ofNat_bytes_vpSetFormat, ← hlen]
  rfl

/-- Settles O19: each form's length is `LEN_VPSET` of its own part. -/
theorem vpSetWritesItsPart : Obligations.VpSetWritesItsPart := by
  intro s attr ws c with_
  have staged (k : Fin 6) (m : Mnemonic) (hlen : c.format m = c.vpSetFormat k) :
      vpSet k m attr ws s = .next (with_ k (c.opcode m)) :=
    congrArg _ (stagedViewport_eq attr ws hlen)
  exact ⟨staged 0 .VP_SET_0 rfl, staged 1 .VP_SET_1 rfl, staged 2 .VP_SET_2 rfl, staged 3 .VP_SET_3 rfl,
    staged 4 .VP_SET_4 rfl, staged 5 .VP_SET_5 rfl⟩

/-! ## Viewport Commit (R141, R150) -/

/-- A commit to slot 0 raises with the state otherwise as it was. -/
theorem exec_vpCommit_zero {s : State} (hfault : s.fault = none) :
    exec (.vpCommit 0) s = .next { s with fault := some (.badField .VP_COMMIT .n 0 s.pc) } :=
  (execVpCommit_eq 0 s).trans (congrArg _ (raise_eq_of_none s _ hfault))

/-- A commit to any other slot copies the scratch there. -/
theorem exec_vpCommit_of_ne {n : BitVec 3} (s : State) (hn : n ≠ 0) :
    exec (.vpCommit n) s = .next { s with
      viewports := Table.put s.viewports n.toNat (committedSlot s.vpScratch), pc := s.pc + 4 } :=
  (execVpCommit_eq n s).trans (congrArg _ (if_neg hn))

/-- Settles O20, by the law of a table's slots after a write. -/
theorem vpCommitCopiesTheScratch : Obligations.VpCommitCopiesTheScratch := by
  intro s n
  refine ⟨fun hn => ⟨_, exec_vpCommit_of_ne s hn, rfl, ?written, fun j hj => ?others⟩, fun hn hfault => ?faults⟩
  case written => exact (Table.get_put ..).trans (if_pos rfl)
  case others => exact (Table.get_put ..).trans (if_neg hj.symm)
  case faults =>
    subst hn
    exact exec_vpCommit_zero hfault

/-! ## A commit between Sets (R141, R143, R150) -/

theorem execAll_cons_of_next {i : Instr} {s t : State} (is : List Instr) (h : exec i s = .next t) :
    execAll (i :: is) s = execAll is t := by
  rw [execAll, h]

/-- The part that a Set names holds its words. -/
theorem get_stagedViewport_same (k : Fin 6) (m : Mnemonic) (attr : BitVec 20) (ws : List Word) (s : State) :
    (stagedViewport k m attr ws s).vpScratch.get k = some ((attr ++ s.cfg.opcode m : Word) :: ws) := by
  simp [stagedViewport, Vector.get_eq_getElem, vpWords, Cfg.firstWord]

/-- A part that a Set does not name stays. -/
theorem get_stagedViewport_of_ne {j k : Fin 6} (m : Mnemonic) (attr : BitVec 20) (ws : List Word) (s : State)
    (h : j ≠ k) : (stagedViewport k m attr ws s).vpScratch.get j = s.vpScratch.get j := by
  simp [stagedViewport, Vector.get_eq_getElem, Fin.val_ne_of_ne h.symm]

/-- A Set after a commit writes the scratch only: the slot keeps the scratch as the commit found it. -/
theorem execAll_vpCommit_vpSet0 {n : BitVec 3} (attr : BitVec 20) (ws : List Word) (s : State) (hn : n ≠ 0) :
    ∃ t, execAll [.vpCommit n, .vpSet0 attr ws] s = .next t
      ∧ Table.get t.viewports n.toNat = ⟨true, some s.vpScratch⟩
      ∧ t.vpScratch.get 0 = some ((attr ++ s.cfg.opcode .VP_SET_0 : Word) :: ws) := by
  obtain ⟨u, hcommit, hframe, hslot, -⟩ := (vpCommitCopiesTheScratch s n).1 hn
  have hcfg : u.cfg = s.cfg := by rw [hframe]
  refine ⟨stagedViewport 0 .VP_SET_0 attr ws u, ?run, hslot, hcfg ▸ get_stagedViewport_same ..⟩
  case run => rw [execAll_cons_of_next _ hcommit, execAll_cons_of_next _ (exec_vpSet0 ..), execAll]

/-- Settles O21: the second Set replaces what the first wrote, and the commit copies the scratch that the two leave. -/
theorem committedSlotKeepsItsCopy : Obligations.CommittedSlotKeepsItsCopy := by
  intro s a1 a2 a3 w1 w2 w3 n hn
  obtain ⟨t, hrun, hslot, hlater⟩ :=
    execAll_vpCommit_vpSet0 a3 w3 (stagedViewport 0 .VP_SET_0 a2 w2 (stagedViewport 0 .VP_SET_0 a1 w1 s)) hn
  refine ⟨t, _, ?run, hslot, get_stagedViewport_same .., hlater, fun k hk => ?others⟩
  case run => rw [execAll_cons_of_next _ (exec_vpSet0 ..), execAll_cons_of_next _ (exec_vpSet0 ..), hrun]
  case others => rw [get_stagedViewport_of_ne _ _ _ _ hk, get_stagedViewport_of_ne _ _ _ _ hk]

/-! ## The instructions that only move the pc (R142, R151, R160 to R172, R185) -/

theorem advance_eq_movedOn {m : Mnemonic} {f : Format} {s : State} (h : s.cfg.format m = f) :
    advance m s = movedOn (BitVec.ofNat 32 f.bytes) s := by
  rw [← h]
  rfl

/-- Settles O22: each of these meanings is a move of the pc by a length that the configuration leaves fixed, the Recalls after a
slot read without effect. -/
theorem colorTextureAndRecallsOnlyAdvance : Obligations.ColorTextureAndRecallsOnlyAdvance := by
  intro s attr w1 p q index
  have four (m : Mnemonic) (h : s.cfg.format m = .f4) : (.next (advance m s) : Host.Outcome State Fault Refusal) =
      .next (movedOn 4 s) := congrArg _ (advance_eq_movedOn h)
  have eight (m : Mnemonic) (h : s.cfg.format m = .f8) : (.next (advance m s) : Host.Outcome State Fault Refusal) =
      .next (movedOn 8 s) := congrArg _ (advance_eq_movedOn h)
  exact ⟨eight .COLOR_SET_0 rfl, eight .COLOR_SET_2 rfl, eight .COLOR_SET_4 rfl, eight .COLOR_SET_6 rfl,
    four .COLOR_COMMIT rfl, four .COLOR_RECALL rfl, four .TEX_SET_0 rfl, four .TEX_SET_2 rfl, four .TEX_SET_4 rfl,
    four .TEX_COMMIT rfl, four .TEX_RECALL rfl, four .VP_RECALL rfl, four .MTX_COMMIT rfl⟩

end Sys2Proof.Machine
end

section
/-! The matrix instructions that write the modelview scratch (R180 to R184). -/

namespace Sys2Proof.Machine

/-- Matrix Set of any mnemonic of 16 bytes writes the row and moves the pc on, and does nothing else (R180). -/
theorem mtxSet_eq {m : Mnemonic} {s : State} (sub : BitVec 2) (row : Vec3) (hlen : s.cfg.format m = .f16) :
    mtxSet m sub row s =
      .next { s with mvScratch := s.mvScratch.set sub.toFin (some row), pc := s.pc + 16 } :=
  have hmoved : advance m (setMvRow sub.toFin row s) = movedOn 16 (setMvRow sub.toFin row s) :=
    advance_eq_movedOn (s := setMvRow sub.toFin row s) hlen
  congrArg _ hmoved

/-- Settles O23: the four forms are one Matrix Set, each of 16 bytes under every configuration. -/
theorem mtxSetWritesItsRow : Obligations.MtxSetWritesItsRow := by
  intro s index mid sub x y z t
  have written (m : Mnemonic) (hlen : s.cfg.format m = .f16) : mtxSet m sub (vec3Of x y z) s = .next t :=
    mtxSet_eq sub (vec3Of x y z) hlen
  exact ⟨written .MTX_SET_0 rfl, written .MTX_SET_1 rfl, written .MTX_SET_2 rfl, written .MTX_SET_3 rfl⟩

end Sys2Proof.Machine
end

section
/-! The vertex instructions and the assembler that they feed (R191 to R213). -/

namespace Sys2Proof.Machine

/-! ## Vertex 3f and Vertex Normal (R197 to R210) -/

/-- What Vertex 3f makes of a state: the position is appended and the pc moves on by 16 (R197). -/
def vertexAppended (p : Vec3) (s : State) : State := movedOn 16 (append p s)

theorem vtx3f_eq {m : Mnemonic} {s : State} (p : Vec3) (hlen : s.cfg.format m = .f16) :
    vtx3f m p s = .next (vertexAppended p s) :=
  congrArg _ (advance_eq_movedOn (s := append p s) hlen)

theorem vtxN_eq {m : Mnemonic} {s : State} (hlen : s.cfg.format m = .f32) : vtxN m s = .next (movedOn 32 s) :=
  congrArg _ (advance_eq_movedOn hlen)

/-- Settles O24: the four forms are one Vertex 3f, each of 16 bytes under every configuration. -/
theorem vtx3fAppends : Obligations.Vtx3fAppends := by
  intro s x y z p t
  have appends (m : Mnemonic) (hlen : s.cfg.format m = .f16) : vtx3f m (vec3Of x y z) s = .next t :=
    vtx3f_eq (vec3Of x y z) hlen
  exact ⟨appends .VTX3F_0 rfl, appends .VTX3F_1 rfl, appends .VTX3F_2 rfl, appends .VTX3F_3 rfl⟩

/-- Settles O25: the eight forms are one Vertex Normal, each of 32 bytes under every configuration. -/
theorem vtxNOnlyAdvances : Obligations.VtxNOnlyAdvances := by
  intro s h0 h1 x y z nx ny nz
  exact ⟨vtxN_eq (m := .VTXN_0) rfl, vtxN_eq (m := .VTXN_1) rfl, vtxN_eq (m := .VTXN_2) rfl, vtxN_eq (m := .VTXN_3) rfl,
    vtxN_eq (m := .VTXN_4) rfl, vtxN_eq (m := .VTXN_5) rfl, vtxN_eq (m := .VTXN_6) rfl, vtxN_eq (m := .VTXN_7) rfl⟩

/-! ## The ring as a list of recent positions (R191, R192) -/

theorem recentSlot_one (s : State) : recentSlot s 1 = s.cursor - 2 := sub_sub s.cursor 1 1

theorem recentSlot_two (s : State) : recentSlot s 2 = s.cursor - 3 := sub_sub s.cursor 1 2

theorem recentPos_append_zero (p : Vec3) (s : State) :
    recentPos (append p s) 0 = some (normalise s.cfg s.draws p) := by
  rw [recentPos, recentSlot_append, append_ring]
  exact Vector.getElem_set_self s.cursor.isLt

/-- Only the oldest slot is the one that the next append writes. -/
theorem cursor_ne_recentSlot {s : State} {i : Fin 3} (hi : i ≠ 2) : s.cursor ≠ recentSlot s i :=
  have distinct : ∀ c i : Fin 3, i ≠ 2 → c ≠ c - 1 - i := by decide
  distinct s.cursor i hi

/-- An append pushes every position but the oldest one place back. -/
theorem recentPos_append_succ (p : Vec3) (s : State) {i j : Fin 3} (hj : j = i + 1) (hi : i ≠ 2) :
    recentPos (append p s) j = recentPos s i := by
  have hslot : recentSlot (append p s) j = recentSlot s i := by
    rw [recentSlot, recentSlot, append_cursor, hj]
    abel
  rw [recentPos, hslot, append_ring]
  exact Vector.getElem_set_ne s.cursor.isLt (recentSlot s i).isLt (Fin.val_ne_of_ne (cursor_ne_recentSlot hi))

theorem recentPos_vertexAppended_zero (p : Vec3) (s : State) :
    recentPos (vertexAppended p s) 0 = some (normalise s.cfg s.draws p) := recentPos_append_zero p s

theorem recentPos_vertexAppended_one (p : Vec3) (s : State) : recentPos (vertexAppended p s) 1 = recentPos s 0 :=
  recentPos_append_succ p s rfl (by decide)

theorem recentPos_vertexAppended_two (p : Vec3) (s : State) : recentPos (vertexAppended p s) 2 = recentPos s 1 :=
  recentPos_append_succ p s rfl (by decide)

/-- `emit_triangle` fails on the first empty slot, most recent first (R192). -/
theorem emitTriangle_empty (u0 u1 u2 : UV) {s : State} {k : Fin 3} (hempty : recentPos s k = none)
    (hfilled : ∀ j < k, recentPos s j ≠ none) :
    emitTriangle u0 u1 u2 s = .error (.emptyRingSlot (recentSlot s k) s.pc) := by
  have filled (j : Fin 3) (hj : j < k) : ∃ p, recentPos s j = some p := Option.ne_none_iff_exists'.mp (hfilled j hj)
  match k with
  | 0 => simp [emitTriangle, hempty]
  | 1 =>
    obtain ⟨p0, h0⟩ := filled 0 (by decide)
    simp [emitTriangle, hempty, h0]
  | 2 =>
    obtain ⟨p0, h0⟩ := filled 0 (by decide)
    obtain ⟨p1, h1⟩ := filled 1 (by decide)
    simp [emitTriangle, hempty, h0, h1]

/-! ## Tex Coord (R211 to R213) -/

/-- What Tex Coord makes of a state whose ring holds these positions, most recent first (R211). -/
def triangleEmitted (p0 p1 p2 : Vec3) (w1 w2 w3 : Word) (s : State) : State :=
  movedOn 16 (emit
    ⟨⟨p0, normaliseUV s.cfg s.draws (uvDecode s.cfg w1)⟩, ⟨p1, normaliseUV s.cfg (s.draws + 2) (uvDecode s.cfg w2)⟩,
      ⟨p2, normaliseUV s.cfg (s.draws + 4) (uvDecode s.cfg w3)⟩⟩ { s with draws := s.draws + 6 })

theorem texCoord_full {m : Mnemonic} {s : State} (w1 w2 w3 : Word) {p0 p1 p2 : Vec3} (hlen : s.cfg.format m = .f16)
    (h0 : recentPos s 0 = some p0) (h1 : recentPos s 1 = some p1) (h2 : recentPos s 2 = some p2) :
    texCoord m w1 w2 w3 s = .next (triangleEmitted p0 p1 p2 w1 w2 w3 s) := by
  simp only [texCoord, emitTriangle_full _ _ _ s h0 h1 h2]
  exact congrArg _ (advance_eq_movedOn (s := emit _ { s with draws := s.draws + 6 }) hlen)

/-- Settles O26: the three slots of the statement are the ring's three recent ones. -/
theorem texCoordEmits : Obligations.TexCoordEmits := by
  intro s w1 w2 w3 p0 p1 p2 h0 h1 h2 uv t
  have hpos0 : recentPos s 0 = some p0 := by rwa [recentPos, recentSlot, sub_zero]
  have hpos1 : recentPos s 1 = some p1 := by rwa [recentPos, recentSlot_one]
  have hpos2 : recentPos s 2 = some p2 := by rwa [recentPos, recentSlot_two]
  exact ⟨texCoord_full (m := .TEXCOORD_0) w1 w2 w3 rfl hpos0 hpos1 hpos2,
    texCoord_full (m := .TEXCOORD_1) w1 w2 w3 rfl hpos0 hpos1 hpos2⟩

/-- Settles O27: the assembler's error is raised on the state as it was. -/
theorem texCoordFaultsOnAnEmptySlot : Obligations.TexCoordFaultsOnAnEmptySlot := by
  intro s w1 w2 w3 k hnone hempty hfilled t
  have raises (m : Mnemonic) : texCoord m w1 w2 w3 s = .next t := by
    simp only [texCoord, emitTriangle_empty _ _ _ hempty hfilled]
    exact congrArg _ (raise_eq_of_none s _ hnone)
  exact ⟨raises .TEXCOORD_0, raises .TEXCOORD_1⟩

/-- Settles O28: three appends fill the ring, whatever it held, and a fourth drops the first of them. -/
theorem fourPositionsThenATriangle : Obligations.FourPositionsThenATriangle := by
  intro s p0 p1 p2 p3 w1 w2 w3
  let s1 := vertexAppended p0 s
  let s2 := vertexAppended p1 s1
  let s3 := vertexAppended p2 s2
  let s4 := vertexAppended p3 s3
  have h0 : recentPos s4 0 = some (normalise s.cfg (s.draws + 6) p3) := recentPos_vertexAppended_zero p3 s3
  have h1 : recentPos s4 1 = some (normalise s.cfg (s.draws + 4) p2) := by
    rw [recentPos_vertexAppended_one, recentPos_vertexAppended_zero]
    rfl
  have h2 : recentPos s4 2 = some (normalise s.cfg (s.draws + 2) p1) := by
    rw [recentPos_vertexAppended_two, recentPos_vertexAppended_one, recentPos_vertexAppended_zero]
    rfl
  have step0 : exec (.vtx3f0 p0.x p0.y p0.z) s = .next s1 := vtx3f_eq (m := .VTX3F_0) p0 rfl
  have step1 : exec (.vtx3f1 p1.x p1.y p1.z) s1 = .next s2 := vtx3f_eq (m := .VTX3F_1) p1 rfl
  have step2 : exec (.vtx3f2 p2.x p2.y p2.z) s2 = .next s3 := vtx3f_eq (m := .VTX3F_2) p2 rfl
  have step3 : exec (.vtx3f3 p3.x p3.y p3.z) s3 = .next s4 := vtx3f_eq (m := .VTX3F_3) p3 rfl
  have step4 : exec (.texCoord0 w1 w2 w3) s4 = .next (triangleEmitted _ _ _ w1 w2 w3 s4) :=
    texCoord_full (m := .TEXCOORD_0) w1 w2 w3 rfl h0 h1 h2
  refine ⟨triangleEmitted _ _ _ w1 w2 w3 s4, _, _, _, ?run, rfl, ?cursor, ?pc⟩
  case run =>
    rw [execAll_cons_of_next _ step0, execAll_cons_of_next _ step1, execAll_cons_of_next _ step2,
      execAll_cons_of_next _ step3, execAll_cons_of_next _ step4, execAll]
  case cursor =>
    change s.cursor + 1 + 1 + 1 + 1 = s.cursor + 1
    generalize s.cursor = c
    decide +revert
  case pc =>
    change s.pc + 16 + 16 + 16 + 16 + 16 = s.pc + 80
    bv_omega

end Sys2Proof.Machine
end

section
/-! The finite binary32 patterns as significands times powers of two (R190). -/

namespace Sys2Proof.Machine

/-! ## The parts of a pattern from its low 31 bits -/

theorem f32Exp_ofNat {k : Nat} (hk : k < 2 ^ 31) : f32Exp (BitVec.ofNat 32 k) = k / 2 ^ 23 := by
  rw [f32Exp, BitVec.extractLsb'_toNat, BitVec.toNat_ofNat, Nat.shiftRight_eq_div_pow]
  omega

theorem f32Frac_ofNat (k : Nat) : f32Frac (BitVec.ofNat 32 k) = k % 2 ^ 23 := by
  rw [f32Frac, BitVec.extractLsb'_toNat, BitVec.toNat_ofNat, Nat.shiftRight_zero]
  omega

theorem toNat_f32Pack (neg : Bool) {m : Nat} (hm : m < 2 ^ 31) :
    (f32Pack neg m).toNat = (if neg then 2 ^ 31 else 0) + m := by
  rw [f32Pack, BitVec.toNat_ofNat]
  cases neg <;> simp <;> omega

theorem toNat_f32Pack_mod (neg : Bool) {m : Nat} (hm : m < 2 ^ 31) : (f32Pack neg m).toNat % 2 ^ 31 = m := by
  rw [toNat_f32Pack neg hm]
  cases neg <;> simp <;> omega

theorem f32Pack_false (m : Nat) : f32Pack false m = BitVec.ofNat 32 m := by simp [f32Pack]

theorem f32Sign_f32Pack (neg : Bool) {m : Nat} (hm : m < 2 ^ 31) : f32Sign (f32Pack neg m) = neg := by
  rw [f32Sign, BitVec.getLsbD, toNat_f32Pack neg hm]
  cases neg with
  | false => simpa using Nat.testBit_lt_two_pow hm
  | true => rw [if_pos rfl, Nat.testBit_two_pow_add_eq, Nat.testBit_lt_two_pow hm, Bool.not_false]

/-! ## Significands -/

/-- `m` can be the significand of a value whose unit in the last place is `2^e` (times 2^-149): a normal one, or any at the least
exponent. `2^24` is the carry that rounding can make. -/
structure IsSignificand (e m : Nat) : Prop where
  le : m ≤ 2 ^ 24
  normal : e = 0 ∨ 2 ^ 23 ≤ m

/-- A significand stands for that many units of its exponent, also where it carries into the next. -/
theorem f32Units_of_isSignificand {e m : Nat} (h : IsSignificand e m) (hk : e * 2 ^ 23 + m < 2 ^ 31) :
    f32Units (BitVec.ofNat 32 (e * 2 ^ 23 + m)) = m * 2 ^ e := by
  obtain ⟨hle, hnormal⟩ := h
  rw [f32Units, f32Exp_ofNat hk, f32Frac_ofNat]
  obtain hsub | hnorm | hcarry : m < 2 ^ 23 ∨ (2 ^ 23 ≤ m ∧ m < 2 ^ 24) ∨ m = 2 ^ 24 := by omega
  · obtain rfl : e = 0 := by omega
    rw [if_pos (by omega)]
    omega
  · rw [show (e * 2 ^ 23 + m) / 2 ^ 23 = e + 1 by omega, if_neg (by omega), Nat.add_sub_cancel]
    congr 1
    omega
  · rw [show (e * 2 ^ 23 + m) / 2 ^ 23 = e + 2 by omega, show (e * 2 ^ 23 + m) % 2 ^ 23 = 0 by omega, if_neg (by omega),
      hcarry, show e + 2 - 1 = e + 1 by omega]
    ring

/-- Every pattern has a significand that carries nothing. -/
theorem exists_isSignificand (k : Nat) : ∃ e m, IsSignificand e m ∧ m < 2 ^ 24 ∧ k = e * 2 ^ 23 + m := by
  by_cases hk : k < 2 ^ 23
  · exact ⟨0, k, ⟨by omega, .inl rfl⟩, by omega, by omega⟩
  · exact ⟨k / 2 ^ 23 - 1, k % 2 ^ 23 + 2 ^ 23, ⟨by omega, .inr (by omega)⟩, by omega, by omega⟩

/-- With a larger exponent goes a larger magnitude. -/
theorem significand_mul_lt {e e' m m' : Nat} (hm : m < 2 ^ 24) (h' : IsSignificand e' m') (he : e < e') :
    m * 2 ^ e < m' * 2 ^ e' := by
  have hm' : 2 ^ 23 ≤ m' := h'.normal.resolve_left (by omega)
  calc m * 2 ^ e < 2 ^ 24 * 2 ^ e := Nat.mul_lt_mul_of_pos_right hm (Nat.two_pow_pos e)
    _ = 2 ^ 23 * 2 ^ (e + 1) := by ring
    _ ≤ m' * 2 ^ e' := Nat.mul_le_mul hm' (Nat.pow_le_pow_right (by decide) he)

/-- Two patterns of one magnitude are one pattern. -/
theorem eq_of_f32Units_eq {k k' : Nat} (hk : k < 2 ^ 31) (hk' : k' < 2 ^ 31)
    (h : f32Units (BitVec.ofNat 32 k) = f32Units (BitVec.ofNat 32 k')) : k = k' := by
  obtain ⟨e, m, hsig, hm, rfl⟩ := exists_isSignificand k
  obtain ⟨e', m', hsig', hm', rfl⟩ := exists_isSignificand k'
  rw [f32Units_of_isSignificand hsig hk, f32Units_of_isSignificand hsig' hk'] at h
  obtain hlt | rfl | hgt := Nat.lt_trichotomy e e'
  · exact absurd h (significand_mul_lt hm hsig' hlt).ne
  · rw [Nat.eq_of_mul_eq_mul_right (Nat.two_pow_pos e) h]
  · exact absurd h (significand_mul_lt hm' hsig hgt).ne'

/-- Of two exponents, a magnitude is a count of units of the first, or lies below every normal significand of it. -/
theorem f32Units_multiple_or_lt {k : Nat} (e : Nat) (hk : k < 2 ^ 31) :
    (∃ j, f32Units (BitVec.ofNat 32 k) = j * 2 ^ e) ∨ (e ≠ 0 ∧ f32Units (BitVec.ofNat 32 k) < 2 ^ 23 * 2 ^ e) := by
  obtain ⟨e', m', hsig', hm', rfl⟩ := exists_isSignificand k
  rw [f32Units_of_isSignificand hsig' hk]
  obtain hle | hlt := le_or_gt e e'
  · exact .inl ⟨m' * 2 ^ (e' - e), by rw [mul_assoc, ← pow_add, Nat.sub_add_cancel hle]⟩
  · exact .inr ⟨by omega, significand_mul_lt hm' ⟨by decide, .inr le_rfl⟩ hlt⟩

end Sys2Proof.Machine
end

section
/-! Round-to-nearest-even: of a quotient to an integer, and of a quotient to a binary32 pattern (R193). -/

namespace Sys2Proof.Machine

/-! ## Rounding a quotient to an integer -/

/-- How far `u` lies from `num / den`, in units of `1 / den`: the distance by which RoundingIsNearestEven compares. -/
def offBy (num den u : Nat) : Nat := ((u : Int) * den - num).natAbs

theorem offBy_mul (num den u w : Nat) : offBy num den (u * w) = offBy num (den * w) u := by
  simp only [offBy, Nat.cast_mul]
  congr 2
  ring

theorem roundDivEven_near (num : Nat) {den : Nat} (hden : 0 < den) :
    2 * offBy num den (roundDivEven num den) ≤ den
      ∧ (2 * offBy num den (roundDivEven num den) = den → roundDivEven num den % 2 = 0) := by
  have hr : num % den < den := Nat.mod_lt num hden
  have hq : (num : Int) = (num / den : Nat) * (den : Int) + (num % den : Nat) := by
    exact_mod_cast (Nat.div_add_mod' num den).symm
  have hnext : ((num / den + 1 : Nat) : Int) * den = (num / den : Nat) * (den : Int) + den := by push_cast; ring
  simp only [roundDivEven, offBy]
  generalize num / den = q at *
  generalize num % den = r at *
  split_ifs <;> refine ⟨?_, fun _ => ?_⟩ <;> omega

theorem cast_mul_add_le_of_lt {m n : Nat} (den : Nat) (h : m < n) : (m : Int) * den + den ≤ n * den := by
  exact_mod_cast (Nat.succ_mul m den).symm.trans_le (Nat.mul_le_mul_right den h)

/-- No integer is nearer to the quotient, and another is equally near only to an even one. -/
theorem roundDivEven_nearest (num : Nat) {den : Nat} (hden : 0 < den) (j : Nat) :
    offBy num den (roundDivEven num den) ≤ offBy num den j
      ∧ (offBy num den (roundDivEven num den) = offBy num den j →
          j = roundDivEven num den ∨ roundDivEven num den % 2 = 0) := by
  obtain ⟨hnear, htie⟩ := roundDivEven_near num hden
  generalize roundDivEven num den = m at *
  unfold offBy at *
  obtain hlt | rfl | hgt := Nat.lt_trichotomy j m
  · have := cast_mul_add_le_of_lt den hlt
    omega
  · simp
  · have := cast_mul_add_le_of_lt den hgt
    omega

theorem le_roundDivEven {num den n : Nat} (hden : 0 < den) (h : n * den ≤ num) : n ≤ roundDivEven num den := by
  have hn : n ≤ num / den := (Nat.le_div_iff_mul_le hden).mpr h
  simp only [roundDivEven]
  split_ifs <;> omega

theorem roundDivEven_le {num den n : Nat} (h : num < n * den) : roundDivEven num den ≤ n := by
  have hn : num / den < n := Nat.div_lt_of_lt_mul (by rwa [mul_comm])
  simp only [roundDivEven]
  split_ifs <;> omega

/-- The even integer above an odd `n` is reached from the midpoint of the two on: the tie there goes to it. -/
theorem lt_roundDivEven_iff_of_odd {num den n : Nat} (hden : 0 < den) (hn : n % 2 = 1) :
    n < roundDivEven num den ↔ (2 * n + 1) * den ≤ 2 * num := by
  obtain ⟨hnear, htie⟩ := roundDivEven_near num hden
  generalize roundDivEven num den = m at *
  have hmid : (2 * n + 1) * den = 2 * (n * den) + den := by ring
  unfold offBy at *
  obtain hlt | rfl | hgt := Nat.lt_trichotomy m n
  · have := cast_mul_add_le_of_lt den hlt
    omega
  · omega
  · have := cast_mul_add_le_of_lt den hgt
    omega

/-! ## Rounding to binary32 (R193) -/

/-- The exponent of the unit in the last place of the binary32 values around `num / den`. -/
def ulpExponent (num den : Nat) : Nat := Nat.log2 (num / den) - 23

/-- The significand that `num / den` rounds to, a count of units in the last place. -/
def roundedSignificand (num den : Nat) : Nat := roundDivEven num (den * 2 ^ ulpExponent num den)

theorem roundUnits_eq (num den : Nat) :
    roundUnits num den = min 0x7F800000 (ulpExponent num den * 2 ^ 23 + roundedSignificand num den) :=
  (min_def ..).symm

theorem roundUnits_le (num den : Nat) : roundUnits num den ≤ 0x7F800000 := by
  rw [roundUnits_eq]
  exact min_le_left ..

theorem ulp_pos (num : Nat) {den : Nat} (hden : 0 < den) : 0 < den * 2 ^ ulpExponent num den :=
  Nat.mul_pos hden (Nat.two_pow_pos _)

theorem lt_ulps (num : Nat) {den : Nat} (hden : 0 < den) : num < 2 ^ 24 * (den * 2 ^ ulpExponent num den) := by
  have hq : num / den < 2 ^ (24 + ulpExponent num den) :=
    calc num / den < 2 ^ (Nat.log2 (num / den) + 1) := Nat.lt_log2_self
      _ ≤ 2 ^ (24 + ulpExponent num den) := Nat.pow_le_pow_right (by decide) (by unfold ulpExponent; omega)
  calc num < den * 2 ^ (24 + ulpExponent num den) := mul_comm den _ ▸ (Nat.div_lt_iff_lt_mul hden).mp hq
    _ = 2 ^ 24 * (den * 2 ^ ulpExponent num den) := by ring

theorem ulps_le {num den : Nat} (hden : 0 < den) (he : ulpExponent num den ≠ 0) :
    2 ^ 23 * (den * 2 ^ ulpExponent num den) ≤ num := by
  have hlog : Nat.log2 (num / den) = 23 + ulpExponent num den := by
    unfold ulpExponent at *
    omega
  have hq : num / den ≠ 0 := fun h => by simp [ulpExponent, h] at he
  calc 2 ^ 23 * (den * 2 ^ ulpExponent num den) = 2 ^ Nat.log2 (num / den) * den := by rw [hlog]; ring
    _ ≤ num := (Nat.le_div_iff_mul_le hden).mp (Nat.log2_self_le hq)

theorem isSignificand_rounded (num : Nat) {den : Nat} (hden : 0 < den) :
    IsSignificand (ulpExponent num den) (roundedSignificand num den) where
  le := roundDivEven_le (lt_ulps num hden)
  normal := or_iff_not_imp_left.mpr fun he => le_roundDivEven (ulp_pos num hden) (ulps_le hden he)

theorem roundedSignificand_nearest {num den : Nat} (hden : 0 < den) (j : Nat) :
    offBy num (den * 2 ^ ulpExponent num den) (roundedSignificand num den)
        ≤ offBy num (den * 2 ^ ulpExponent num den) j
      ∧ (offBy num (den * 2 ^ ulpExponent num den) (roundedSignificand num den)
            = offBy num (den * 2 ^ ulpExponent num den) j →
          j = roundedSignificand num den ∨ roundedSignificand num den % 2 = 0) :=
  roundDivEven_nearest num (ulp_pos num hden) j

/-- Infinity is reached from the midpoint above the largest finite value on. -/
theorem roundUnits_eq_infinity_iff {num den : Nat} (hden : 0 < den) :
    roundUnits num den = 0x7F800000 ↔ (2 ^ 25 - 1) * 2 ^ 252 * den ≤ num := by
  have hsig := isSignificand_rounded num hden
  have hle := hsig.le
  have hlt := lt_ulps num hden
  have hge := ulps_le (num := num) hden
  have hinf : roundUnits num den = 0x7F800000
      ↔ 255 * 2 ^ 23 ≤ ulpExponent num den * 2 ^ 23 + roundedSignificand num den := by
    rw [roundUnits_eq]
    omega
  rw [hinf]
  obtain hsmall | htop | hlarge := Nat.lt_trichotomy (ulpExponent num den) 253
  · have hpow : den * 2 ^ ulpExponent num den ≤ den * 2 ^ 252 :=
      Nat.mul_le_mul_left den (Nat.pow_le_pow_right (by decide) (by omega))
    omega
  · have hcarry := lt_roundDivEven_iff_of_odd (num := num) (n := 2 ^ 24 - 1) (ulp_pos num hden) (by decide)
    rw [← roundedSignificand, htop] at hcarry
    rw [htop]
    omega
  · have hpow : den * 2 ^ 254 ≤ den * 2 ^ ulpExponent num den :=
      Nat.mul_le_mul_left den (Nat.pow_le_pow_right (by decide) hlarge)
    have hnormal := hsig.normal
    omega

/-- A result below infinity is a significand with its exponent. -/
theorem roundUnits_of_lt {num den : Nat} (hfin : roundUnits num den < 0x7F800000) :
    roundUnits num den = ulpExponent num den * 2 ^ 23 + roundedSignificand num den := by
  rw [roundUnits_eq] at hfin ⊢
  omega

theorem f32Units_roundUnits {num den : Nat} (hden : 0 < den) (hfin : roundUnits num den < 0x7F800000) :
    f32Units (BitVec.ofNat 32 (roundUnits num den)) = roundedSignificand num den * 2 ^ ulpExponent num den := by
  have hbits := roundUnits_of_lt hfin
  rw [hbits]
  exact f32Units_of_isSignificand (isSignificand_rounded num hden) (by omega)

/-- No finite pattern is nearer to the exact value than the rounded one, and another is equally near only to an even one. A
pattern of the same unit in the last place is another significand; one of a finer unit lies below all of this exponent, farther
from the exact value than the least of them. -/
theorem roundUnits_nearest {num den k : Nat} (hden : 0 < den) (hfin : roundUnits num den < 0x7F800000) (hk : k < 0x7F800000) :
    offBy num den (f32Units (BitVec.ofNat 32 (roundUnits num den))) ≤ offBy num den (f32Units (BitVec.ofNat 32 k))
      ∧ (offBy num den (f32Units (BitVec.ofNat 32 (roundUnits num den))) = offBy num den (f32Units (BitVec.ofNat 32 k)) →
          k = roundUnits num den ∨ roundUnits num den % 2 = 0) := by
  have hunits := f32Units_roundUnits hden hfin
  have hbits := roundUnits_of_lt hfin
  obtain ⟨j, hj⟩ | ⟨he, hbelow⟩ := f32Units_multiple_or_lt (ulpExponent num den) (k := k) (by omega)
  · rw [hunits, hj, offBy_mul, offBy_mul]
    refine ⟨(roundedSignificand_nearest hden j).1, fun heq => ?_⟩
    obtain rfl | heven := (roundedSignificand_nearest hden j).2 heq
    · exact .inl (eq_of_f32Units_eq (by omega) (by omega) (hj.trans hunits.symm))
    · exact .inr (by omega)
  · have hlt : offBy num den (f32Units (BitVec.ofNat 32 (roundUnits num den))) <
        offBy num den (f32Units (BitVec.ofNat 32 k)) := by
      have hleast : (2 ^ 23 * 2 ^ ulpExponent num den) * den ≤ num := by
        calc _ = 2 ^ 23 * (den * 2 ^ ulpExponent num den) := by ring
          _ ≤ num := ulps_le hden he
      have hfar : f32Units (BitVec.ofNat 32 k) * den < (2 ^ 23 * 2 ^ ulpExponent num den) * den :=
        Nat.mul_lt_mul_of_pos_right hbelow hden
      calc _ ≤ offBy num den (2 ^ 23 * 2 ^ ulpExponent num den) := by
            rw [hunits, offBy_mul, offBy_mul]
            exact (roundedSignificand_nearest hden _).1
        _ < _ := by
            simp only [offBy, ← Nat.cast_mul]
            omega
    exact ⟨hlt.le, fun heq => absurd heq hlt.ne⟩

/-- A value that some finite pattern has is not rounded. -/
theorem f32Units_roundUnits_of_exact {num k : Nat} (hk : k < 0x7F800000) (hnum : f32Units (BitVec.ofNat 32 k) = num)
    (hfin : roundUnits num 1 < 0x7F800000) : f32Units (BitVec.ofNat 32 (roundUnits num 1)) = num := by
  have hnear := (roundUnits_nearest one_pos hfin hk).1
  simp only [hnum, offBy] at hnear
  omega

end Sys2Proof.Machine
end

section
/-! The operations on binary32 patterns: the conversion of half words, division and addition (R193, R194). -/

namespace Sys2Proof.Machine

/-! ## Half words (R194) -/

/-- An integer below 2^16 has a pattern: its leading bit moved to bit 23 of the significand. -/
theorem exists_f32Units_eq_of_lt {n : Nat} (hn : n < 2 ^ 16) :
    ∃ k < 0x7F800000, f32Units (BitVec.ofNat 32 k) = n * 2 ^ 149 := by
  by_cases h0 : n = 0
  · exact ⟨0, by decide, by simp [h0]; decide⟩
  · have hlog : Nat.log2 n < 16 := (Nat.log2_lt h0).mpr hn
    have hlow : 2 ^ Nat.log2 n ≤ n := Nat.log2_self_le h0
    have hhigh : n < 2 ^ (Nat.log2 n + 1) := Nat.lt_log2_self
    generalize Nat.log2 n = l at *
    have hsig : IsSignificand (126 + l) (n * 2 ^ (23 - l)) := by
      constructor
      · calc n * 2 ^ (23 - l) ≤ 2 ^ (l + 1) * 2 ^ (23 - l) := Nat.mul_le_mul_right _ hhigh.le
          _ = 2 ^ 24 := by rw [← pow_add]; congr 1; omega
      · right
        calc 2 ^ 23 = 2 ^ l * 2 ^ (23 - l) := by rw [← pow_add]; congr 1; omega
          _ ≤ n * 2 ^ (23 - l) := Nat.mul_le_mul_right _ hlow
    have hle := hsig.le
    refine ⟨(126 + l) * 2 ^ 23 + n * 2 ^ (23 - l), by omega, ?_⟩
    rw [f32Units_of_isSignificand hsig (by omega), mul_assoc, ← pow_add]
    congr 2
    omega

/-- Settles O30: the integer is below the midpoint to infinity, and is a value that rounding keeps. -/
theorem halfWordsConvertExactly : Obligations.HalfWordsConvertExactly := by
  intro h
  have hh : h.toNat < 2 ^ 16 := h.isLt
  have hfin : roundUnits (h.toNat * 2 ^ 149) 1 < 0x7F800000 := by
    refine lt_of_le_of_ne (roundUnits_le ..) fun hinf => ?_
    have := (roundUnits_eq_infinity_iff one_pos).mp hinf
    omega
  obtain ⟨k, hk, hunits⟩ := exists_f32Units_eq_of_lt hh
  refine ⟨?units, ?sign, ?exponent⟩
  case units =>
    rw [f32OfHalf, f32Pack_false]
    exact f32Units_roundUnits_of_exact hk hunits hfin
  case sign => exact f32Sign_f32Pack false (by omega)
  case exponent =>
    rw [f32OfHalf, f32Pack_false, f32Exp_ofNat (by omega)]
    omega

/-! ## Division and addition (R193) -/

theorem f32IsNaN_iff (a : F32) : f32IsNaN a = true ↔ f32Exp a = 255 ∧ f32Frac a ≠ 0 := by simp [f32IsNaN]

theorem f32IsInf_iff (a : F32) : f32IsInf a = true ↔ f32Exp a = 255 ∧ f32Frac a = 0 := by simp [f32IsInf]

/-- An infinity is no NaN. -/
theorem f32IsNaN_of_infinite {a : F32} (h : f32Exp a = 255 ∧ f32Frac a = 0) : f32IsNaN a = false := by
  simp [f32IsNaN, h.2]

theorem f32IsNaN_of_finite {a : F32} (h : f32Exp a ≠ 255) : f32IsNaN a = false := by simp [f32IsNaN, h]

theorem f32IsInf_of_finite {a : F32} (h : f32Exp a ≠ 255) : f32IsInf a = false := by simp [f32IsInf, h]

theorem roundUnits_zero : roundUnits 0 1 = 0 := by decide

/-- The quotient of two finite values: the exact one rounded, or an infinity or a NaN where the divisor is zero (R193). -/
theorem ieeeDiv_of_finite {a b : F32} (ha : f32Exp a ≠ 255) (hb : f32Exp b ≠ 255) :
    ieeeDiv a b =
      if f32Units b ≠ 0 then
        some (f32Pack (f32Sign a != f32Sign b) (roundUnits (f32Units a * 2 ^ 149) (f32Units b)))
      else if f32Units a ≠ 0 then some (f32Pack (f32Sign a != f32Sign b) 0x7F800000) else none := by
  simp only [ieeeDiv, f32IsNaN_of_finite ha, f32IsNaN_of_finite hb, f32IsInf_of_finite ha, f32IsInf_of_finite hb, ite_not,
    Bool.or_self, Bool.false_eq_true, if_false, f32InfBits]

theorem f32Value_of_pos {a : F32} (h : f32Sign a = false) : f32Value a = f32Units a := by simp [f32Value, h]

theorem f32Value_of_neg {a : F32} (h : f32Sign a = true) : f32Value a = -f32Units a := by simp [f32Value, h]

/-- The pattern of an exact sum, `zeroSign` being the sign of an exact zero. -/
def roundedSum (zeroSign : Bool) (sum : Int) : F32 :=
  f32Pack (decide (sum < 0) || (decide (sum = 0) && zeroSign)) (roundUnits sum.natAbs 1)

theorem roundedSum_natCast {z : Bool} {n : Nat} (h : n = 0 → z = false) :
    roundedSum z n = f32Pack false (roundUnits n 1) := by
  have hsign : (decide ((n : Int) < 0) || (decide ((n : Int) = 0) && z)) = false := by simpa using h
  rw [roundedSum, hsign, Int.natAbs_natCast]

theorem roundedSum_neg_natCast {z : Bool} {n : Nat} (h : n = 0 → z = true) :
    roundedSum z (-n) = f32Pack true (roundUnits n 1) := by
  have hsign : (decide (-(n : Int) < 0) || (decide (-(n : Int) = 0) && z)) = true := by
    obtain rfl | hn := Nat.eq_zero_or_pos n
    · simpa using h
    · simp [hn]
  rw [roundedSum, hsign, Int.natAbs_neg, Int.natAbs_natCast]

/-- A difference has the sign of the larger part, and is `+0` where they are equal. -/
theorem roundedSum_sub (u v : Nat) :
    roundedSum false (u - v) =
      if v < u then f32Pack false (roundUnits (u - v) 1)
      else if u < v then f32Pack true (roundUnits (v - u) 1) else f32Pack false 0 := by
  split_ifs with hgt hlt
  · rw [← Nat.cast_sub hgt.le, roundedSum_natCast fun _ => rfl]
  · rw [← neg_sub, ← Nat.cast_sub hlt.le, roundedSum_neg_natCast (by omega)]
  · obtain rfl : u = v := by omega
    rw [← Nat.cast_sub le_rfl, Nat.sub_self, roundedSum_natCast fun _ => rfl, roundUnits_zero]

/-- The sum of two finite values: the exact one rounded, an exact zero negative only where both are (R193). -/
theorem ieeeAdd_of_finite {a b : F32} (ha : f32Exp a ≠ 255) (hb : f32Exp b ≠ 255) :
    ieeeAdd a b = some (roundedSum (f32Sign a && f32Sign b) (f32Value a + f32Value b)) := by
  simp only [ieeeAdd, f32IsNaN_of_finite ha, f32IsNaN_of_finite hb, f32IsInf_of_finite ha, f32IsInf_of_finite hb,
    Bool.or_self, Bool.false_eq_true, if_false]
  cases hsa : f32Sign a <;> cases hsb : f32Sign b
  case false.false =>
    rw [if_pos rfl, f32Value_of_pos hsa, f32Value_of_pos hsb, ← Nat.cast_add, roundedSum_natCast fun _ => Bool.and_self _]
  case true.true =>
    rw [if_pos rfl, f32Value_of_neg hsa, f32Value_of_neg hsb, ← neg_add, ← Nat.cast_add,
      roundedSum_neg_natCast fun _ => Bool.and_self _]
  case false.true =>
    rw [if_neg Bool.false_ne_true, f32Value_of_pos hsa, f32Value_of_neg hsb, ← sub_eq_add_neg, Bool.and_true, roundedSum_sub]
    split_ifs <;> rfl
  case true.false =>
    rw [if_neg Bool.false_ne_true.symm, f32Value_of_neg hsa, f32Value_of_pos hsb, neg_add_eq_sub, Bool.and_false,
      roundedSum_sub]
    obtain hlt | heq | hgt := Nat.lt_trichotomy (f32Units a) (f32Units b)
    · rw [if_neg hlt.not_gt, if_pos hlt, if_pos hlt]
    · rw [if_neg heq.not_gt, if_neg heq.not_lt, if_neg heq.not_lt, if_neg heq.not_gt]
    · rw [if_pos hgt, if_neg hgt.not_gt, if_pos hgt]

/-- A NaN operand makes a NaN of both results. -/
theorem ieee_of_nan {a b : F32} (h : (f32Exp a = 255 ∧ f32Frac a ≠ 0) ∨ (f32Exp b = 255 ∧ f32Frac b ≠ 0)) :
    ieeeDiv a b = none ∧ ieeeAdd a b = none := by
  have hnan : (f32IsNaN a || f32IsNaN b) = true := by simpa only [Bool.or_eq_true, f32IsNaN_iff] using h
  exact ⟨if_pos hnan, if_pos hnan⟩

theorem ieee_of_infinities {a b : F32} (ha : f32Exp a = 255 ∧ f32Frac a = 0) (hb : f32Exp b = 255 ∧ f32Frac b = 0) :
    ieeeDiv a b = none ∧ ieeeAdd a b = if f32Sign a = f32Sign b then some a else none := by
  simp [ieeeDiv, ieeeAdd, f32IsNaN_of_infinite ha, f32IsNaN_of_infinite hb, (f32IsInf_iff a).mpr ha, (f32IsInf_iff b).mpr hb]

theorem ieee_of_infinite_finite {a b : F32} (ha : f32Exp a = 255 ∧ f32Frac a = 0) (hb : f32Exp b ≠ 255) :
    ieeeDiv a b = some (f32Pack (f32Sign a != f32Sign b) 0x7F800000) ∧ ieeeAdd a b = some a := by
  simp [ieeeDiv, ieeeAdd, f32IsNaN_of_infinite ha, f32IsNaN_of_finite hb, (f32IsInf_iff a).mpr ha, f32IsInf_of_finite hb,
    f32InfBits]

theorem ieee_of_finite_infinite {a b : F32} (ha : f32Exp a ≠ 255) (hb : f32Exp b = 255 ∧ f32Frac b = 0) :
    ieeeDiv a b = some (f32Pack (f32Sign a != f32Sign b) 0) ∧ ieeeAdd a b = some b := by
  simp [ieeeDiv, ieeeAdd, f32IsNaN_of_finite ha, f32IsNaN_of_infinite hb, f32IsInf_of_finite ha, (f32IsInf_iff b).mpr hb]

/-- Settles O29: the rounded significand is the nearest count of units in the last place, ties to even, which is nearest among
all finite patterns too; division and addition go by the classes of their operands. -/
theorem roundingIsNearestEven : Obligations.RoundingIsNearestEven := by
  refine ⟨fun num den hden => ⟨fun hfin k hk => roundUnits_nearest hden hfin hk, roundUnits_eq_infinity_iff hden,
    roundUnits_le num den⟩, fun neg m hm => ⟨f32Sign_f32Pack neg hm, toNat_f32Pack_mod neg hm⟩,
    fun c a b hc => ?arithmetic⟩
  have hdiv : fdiv32 c a b = ieeeDiv a b := by rw [fdiv32, hc]
  have hadd : fadd32 c a b = ieeeAdd a b := by rw [fadd32, hc]
  rw [hdiv, hadd]
  refine ⟨ieee_of_nan, ieee_of_infinities, ieee_of_infinite_finite, ieee_of_finite_infinite, fun ha hb =>
    ⟨ieeeDiv_of_finite ha hb, ?sum⟩⟩
  rw [ieeeAdd_of_finite ha hb, roundedSum, ← Bool.and_assoc]

end Sys2Proof.Machine
end

section
/-! The diagnostic instructions (R220 to R238). -/

namespace Sys2Proof.Machine

/-- A diagnostic opcode's length as a format and in bytes agree, whichever of the three lengths the configuration gives it. -/
theorem ofNat_bytes_diagFormat (c : Cfg) (k : Fin 18) : BitVec.ofNat 32 (c.diagFormat k).bytes = diagBytes c k := by
  unfold Cfg.diagFormat diagBytes
  cases c.lenDiag.get k <;> rfl

/-- `Diag(op)` of the `k`-th diagnostic opcode moves the pc on by `LEN_DIAG[k]` and does nothing else (R220). -/
theorem diag_eq {m : Mnemonic} {s : State} (k : Fin 18) (hlen : s.cfg.format m = s.cfg.diagFormat k) :
    diag m s = .next (movedOn (diagBytes s.cfg k) s) := by
  rw [diag, advance_eq_movedOn hlen, ofNat_bytes_diagFormat]

/-- Settles O31: the 18 meanings are one `Diag`, each at its own place in `LEN_DIAG`. -/
theorem diagOnlyAdvances : Obligations.DiagOnlyAdvances := by
  intro s ws t
  have moves (m : Mnemonic) (k : Fin 18) (hlen : s.cfg.format m = s.cfg.diagFormat k) : diag m s = .next (t k) :=
    diag_eq k hlen
  exact ⟨moves .DIAG_101 0 rfl, moves .DIAG_301 1 rfl, moves .DIAG_501 2 rfl, moves .DIAG_043 3 rfl, moves .DIAG_901 4 rfl,
    moves .DIAG_3A1 5 rfl, moves .DIAG_5A1 6 rfl, moves .DIAG_6D1 7 rfl, moves .DIAG_181 8 rfl, moves .DIAG_303 9 rfl,
    moves .DIAG_104 10 rfl, moves .DIAG_051 11 rfl, moves .DIAG_006 12 rfl, moves .DIAG_046 13 rfl, moves .DIAG_451 14 rfl,
    moves .DIAG_064 15 rfl, moves .DIAG_561 16 rfl, moves .DIAG_E88 17 rfl⟩

end Sys2Proof.Machine
end

section
/-! What a step answers (R13, R250, R264, R294): a next state, but for the one illegal host call; and the host operations that
only report or only set the parity. -/

namespace Sys2Proof.Machine

/-! ## A step answers a next state (R264) -/

/-- Every turn of `Exec`'s loop answers a next state: no instruction stops the model (R101, R102). -/
theorem cpStep_next (b : Nat) (s : State) : ∃ t, cpStep b s = .next t := by
  unfold cpStep
  cases fetch s with
  | error r => exact ⟨_, rfl⟩
  | ok i =>
    obtain ⟨t, ht⟩ := exec_next i s
    exact ⟨afterExecute i b t, by simp only [ht]⟩

theorem execStep_next (b : Nat) (s : State) : ∃ t, execStep b s = .next t := by
  unfold execStep
  split
  · exact cpStep_next _ s
  · exact ⟨_, rfl⟩

/-- The access that stops the model is the host operation itself (R264). -/
theorem op_of_hostOp_fault {op : HostOp} {s : State} {a : Word} {n : CramWidth}
    (h : hostOp op s = .fault (.illegalCramAccess a n)) : op = .cramRead a n ∨ ∃ v, op = .cramWrite a n v := by
  cases op with
  | cramRead a' n' =>
    simp only [hostOp] at h
    split at h <;> cases h
    exact .inl rfl
  | cramWrite a' n' v =>
    simp only [hostOp] at h
    split at h <;> cases h
    exact .inr ⟨v, rfl⟩
  | _ => cases h

/-- Settles O41: a turn of `Exec`'s loop always goes on, and of the host operations only the access to command RAM can stop. -/
theorem stepStopsOnlyOnIllegalCalls : Obligations.StepStopsOnlyOnIllegalCalls := by
  intro s
  obtain hb | ⟨b, hb⟩ := Option.eq_none_or_eq_some s.budget
  · rw [step_between s hb]
    cases hin : s.inputs with
    | nil => exact .inl ⟨s, by rw [hostStep, hin]⟩
    | cons op rest =>
      rw [hostStep_op s hin]
      obtain hnext | ⟨a, n, hodd, hstop⟩ := hostOp_next_or_fault op { s with inputs := rest }
      · exact .inl hnext
      · refine .inr ⟨a, n, of_decide_eq_false hodd, hb, hstop, ?_⟩
        obtain rfl | ⟨v, rfl⟩ := op_of_hostOp_fault hstop
        · exact .inl rfl
        · exact .inr ⟨v, rfl⟩
  · rw [step_inside s hb]
    exact .inl (execStep_next b s)

/-! ## A faulted device, and `SetParity` (R250, R267, R294) -/

/-- Settles O40: every operation but the two on command RAM is one of the device, which a fault has stopped. -/
theorem faultedDeviceIsQuiescent : Obligations.FaultedDeviceIsQuiescent := by
  intro s r op rest hfault hb hin hread hwrite
  rw [step_between s hb, hostStep_op s hin]
  cases op with
  | cramRead a n => exact absurd rfl (hread a n)
  | cramWrite a n v => exact absurd rfl (hwrite a n v)
  | exec | regRead | regWrite | reset | setParity =>
    exact congrArg Host.Outcome.next (onDevice_faulted _ { s with inputs := rest } hfault)

theorem HostCalls.step_setParity {s : State} {p : Fin 2} {rest : List HostOp} (h : HostCalls s (.setParity p) rest) :
    step s = .next (finish .done (setParity p { s with inputs := rest })) :=
  h.step_eq.trans (congrArg Host.Outcome.next (onDevice_unfaulted _ _ h.unfaulted))

/-- Settles O58: the parity is all that `SetParity` writes, and it names the stack pointer in use. -/
theorem setParitySelectsTheStack : Obligations.SetParitySelectsTheStack :=
  fun _ _ _ h => ⟨_, h.step_setParity, rfl, rfl⟩

end Sys2Proof.Machine
end

section
/-! The special locations of the register file (R251 to R253, R256 to R261): the constant, the secondary status, the "SEGA" word
and the interrupt registers. -/

namespace Sys2Proof.Machine

/-! ## A read access, and a write access that does not fault (R251, R252) -/

section

variable {s : State} {addr v : Word} {n : Nat} {b : Block} {o : Nat} {rest : List HostOp}

theorem regRead_of_busDecode (h : busDecode s.cfg addr n = some (b, o)) :
    regRead addr n s = finish (.value (readValue s b o))
      (readEffect b o { s with draws := if isSegaId s.cfg b o then s.draws + 1 else s.draws }) := by
  rw [regRead, h]

@[simp] theorem readEffect_results (b : Block) (o : Nat) (s : State) : (readEffect b o s).results = s.results := by
  unfold readEffect
  split <;> rfl

/-- A read access answers the value of its location (R251). -/
theorem HostCalls.step_regRead_value (h : HostCalls s (.regRead addr 4) rest)
    (hbus : busDecode s.cfg addr 4 = some (b, o)) :
    ∃ t, step s = .next t ∧ t.results = s.results ++ [.value (readValue s b o)] := by
  refine ⟨_, h.step_regRead, ?_⟩
  rw [regRead_of_busDecode (s := { s with inputs := rest }) hbus, finish_results, readEffect_results]
  rfl

/-- A write access whose effect raises nothing answers `ok` (R252). -/
theorem HostCalls.step_regWrite_ok {t : State} (h : HostCalls s (.regWrite addr 4 v) rest)
    (hbus : busDecode s.cfg addr 4 = some (b, o)) (heffect : writeEffect b o v { s with inputs := rest } = t)
    (hfault : t.fault = s.fault) : step s = .next (finish .ok t) :=
  h.step_regWrite.trans (congrArg _ (regWrite_unfaulted hbus heffect (hfault.trans h.unfaulted)))

end

/-! ## The constant, the secondary status and the "SEGA" word (R256 to R258) -/

theorem readValue_boardId (s : State) : readValue s .b18 0 = 0x17C711DB := if_pos ⟨rfl, rfl⟩

theorem readValue_secStatus (s : State) : readValue s .b1A 0x18 = s.secStatus.setWidth 32 :=
  (if_neg (by simp)).trans (if_pos ⟨rfl, rfl⟩)

/-- The constant and the secondary status take no write (R256, R257). -/
theorem writeEffect_boardId (v : Word) (s : State) : writeEffect .b18 0 v s = s := rfl

theorem writeEffect_secStatus (v : Word) (s : State) : writeEffect .b1A 0x18 v s = s := rfl

/-- The "SEGA" word takes its literal without storing it, and raises on any other value (R258). -/
theorem writeEffect_segaId {s : State} (v : Word) (h : s.cfg.offSegaId ∉ [0x08, 0x0C, 0x10, 0x14, 0x18, 0x24]) :
    writeEffect .b1A s.cfg.offSegaId v s = if v = 0x53454741 then s else raise (.badSegaId v) s := by
  simp only [List.mem_cons, List.not_mem_nil, or_false, not_or] at h
  obtain ⟨h0, h1, h2, h3, hsec, hbusy⟩ := h
  have hcause : causeAt s.cfg.offSegaId = none := by simp [causeAt, h0, h1, h2, h3]
  rw [writeEffect, write1A, hcause]
  exact (if_neg hsec).trans ((if_neg hbusy).trans (if_pos rfl))

/-- A write access that raises on a device that has not faulted records that fault and answers `Faulted` (R252, R294). -/
theorem regWrite_of_raise {s : State} {addr v : Word} {n : Nat} {b : Block} {o : Nat} {r : FaultReason}
    (hbus : busDecode s.cfg addr n = some (b, o)) (h : writeEffect b o v s = raise r s) (hfault : s.fault = none) :
    regWrite addr n v s = finish .faulted { s with fault := some r } := by
  rw [regWrite_of_busDecode hbus, h, raise_eq_of_none s r hfault]
  rfl

/-- Settles O51, by what the location reads and what a write to it does. -/
theorem boardIdIsConstant : Obligations.BoardIdIsConstant := by
  intro s addr v rest hbus
  refine ⟨fun h => ?_, fun h => h.step_regWrite_ok hbus (writeEffect_boardId v _) rfl⟩
  rw [← readValue_boardId s]
  exact h.step_regRead_value hbus

/-- Settles O52: the secondary status is tested before the "SEGA" word, whose write does nothing or raises. -/
theorem secondaryStatusAndSegaWord : Obligations.SecondaryStatusAndSegaWord := by
  intro s addr v rest
  refine ⟨fun hbus => ⟨fun h => ?secRead, fun h => h.step_regWrite_ok hbus (writeEffect_secStatus v _) rfl⟩,
    fun hbus hoff => ⟨fun h => ?segaWrite, fun h => ?segaRead⟩⟩
  case secRead =>
    rw [← readValue_secStatus s]
    exact h.step_regRead_value hbus
  case segaRead =>
    obtain ⟨t, ht, hvalue⟩ := h.step_regRead_value hbus
    exact ⟨t, _, ht, hvalue⟩
  case segaWrite =>
    have heffect := writeEffect_segaId (s := { s with inputs := rest }) v hoff
    split
    · next hv => exact h.step_regWrite_ok hbus (heffect.trans (if_pos hv)) rfl
    · next hv =>
      exact h.step_regWrite.trans (congrArg _ (regWrite_of_raise hbus (heffect.trans (if_neg hv)) h.unfaulted))

/-! ## A store and its aggregation (R259 to R261, R296) -/

/-- The state after a store to an interrupt register and the aggregation that follows it. -/
def storedAndAggregated (b : Block) (o : Nat) (w : Word) (s : State) : State := aggregate (setReg b o w s)

/-- The mask takes all 32 bits (R259). -/
theorem writeEffect_mask (v : Word) (s : State) : writeEffect .b15 0x84 v s = storedAndAggregated .b15 0x84 v s := rfl

/-- The status keeps the bits written as 1 (R260). -/
theorem writeEffect_status (v : Word) (s : State) :
    writeEffect .b15 0x88 v s = storedAndAggregated .b15 0x88 (s.mainStatus &&& v) s := rfl

/-- A cause loses the bits written as 1 (R261). -/
theorem writeEffect_cause (i : Fin 4) (v : Word) (s : State) :
    writeEffect .b1A (0x08 + 4 * i.val) v s = storedAndAggregated .b1A (0x08 + 4 * i.val) (s.cause i &&& ~~~v) s := by
  match i with
  | 0 | 1 | 2 | 3 => rfl

section

variable (s : State) (b : Block) (o : Nat) (w : Word)

/-- Only the register stored and the main status change. -/
theorem reg_storedAndAggregated {b' : Block} {o' : Nat} (h : (b', o') ≠ (.b15, 0x88)) :
    (storedAndAggregated b o w s).reg b' o' = if b = b' ∧ o = o' then w else s.reg b' o' :=
  (reg_aggregate_of_ne _ b' o' h).trans (reg_setReg s b b' o o' w)

theorem mainMask_storedAndAggregated :
    (storedAndAggregated b o w s).mainMask = if b = .b15 ∧ o = 0x84 then w else s.mainMask :=
  reg_storedAndAggregated s b o w (by decide)

theorem cause_storedAndAggregated (i : Fin 4) :
    (storedAndAggregated b o w s).cause i = if b = .b1A ∧ o = 0x08 + 4 * i.val then w else s.cause i :=
  reg_storedAndAggregated s b o w nofun

/-- The aggregation forces bit 7 of the status that the store leaves, by the causes that it leaves. -/
theorem mainStatus_storedAndAggregated :
    (storedAndAggregated b o w s).mainStatus
      = (if b = .b15 ∧ o = 0x88 then w else s.mainStatus) ||| summaryBit (storedAndAggregated b o w s) := by
  have hstored : (setReg b o w s).mainStatus = if b = .b15 ∧ o = 0x88 then w else s.mainStatus := reg_setReg s b .b15 o _ w
  rw [storedAndAggregated, mainStatus_aggregate, summaryBit_aggregate, hstored]

/-- A store to block 15 touches no cause. -/
theorem summaryBit_storedAndAggregated_b15 : summaryBit (storedAndAggregated .b15 o w s) = summaryBit s :=
  summaryBit_aggregate _

end

/-- The state in which the host operation at hand has answered `r`, with `rest` still to come. -/
def answered (rest : List HostOp) (r : HostResult) (s : State) : State :=
  { s with inputs := rest, results := s.results ++ [r] }

section

variable (rest : List HostOp) (r : HostResult) (s : State)

@[simp] theorem answered_reg (b : Block) (o : Nat) : (answered rest r s).reg b o = s.reg b o := rfl
@[simp] theorem answered_mainMask : (answered rest r s).mainMask = s.mainMask := rfl
@[simp] theorem answered_mainStatus : (answered rest r s).mainStatus = s.mainStatus := rfl
@[simp] theorem answered_cause (i : Fin 4) : (answered rest r s).cause i = s.cause i := rfl
@[simp] theorem summaryBit_answered : summaryBit (answered rest r s) = summaryBit s := rfl

/-- What the host is told leaves the registers and the outputs as the store and its aggregation made them. -/
theorem aggregated_answered (b : Block) (o : Nat) (w : Word) :
    Aggregated (answered rest r (storedAndAggregated b o w s)) :=
  aggregated_aggregate (setReg b o w s)

/-- Beyond the answer, a store to block 15 or 1A with its aggregation writes these two blocks and the interrupt outputs only. -/
theorem answered_storedAndAggregated {b : Block} (o : Nat) (w : Word) (hb : b ≠ .b18) :
    let t := answered rest r (storedAndAggregated b o w s)
    t = { s with
      inputs := rest, results := s.results ++ [r], reg15 := t.reg15, reg1A := t.reg1A
      secStatus := t.secStatus, irqLine := t.irqLine } := by
  cases b with
  | b18 => exact absurd rfl hb
  | b15 | b1A => rfl

end

/-- A write access whose effect is a store that aggregates. -/
theorem HostCalls.step_regWrite_aggregates {s : State} {addr v w : Word} {b : Block} {o : Nat} {rest : List HostOp}
    (h : HostCalls s (.regWrite addr 4 v) rest) (hbus : busDecode s.cfg addr 4 = some (b, o))
    (heffect : writeEffect b o v { s with inputs := rest } = storedAndAggregated b o w { s with inputs := rest }) :
    step s = .next (answered rest .ok (storedAndAggregated b o w s)) :=
  h.step_regWrite_ok hbus heffect rfl

/-- Settles O53: each of the three writes is a store that aggregates. -/
theorem interruptRegisterWrites : Obligations.InterruptRegisterWrites := by
  intro s addr v b o rest hcall hbus hreg
  have frame (w : Word) (b' : Block) (o' : Nat) (hne : (b', o') ≠ (b, o)) (hstatus : (b', o') ≠ (.b15, 0x88)) :
      (storedAndAggregated b o w s).reg b' o' = s.reg b' o' :=
    (reg_storedAndAggregated s b o w hstatus).trans (if_neg fun heq => hne (by rw [heq.1, heq.2]))
  obtain heq | heq | ⟨i, heq⟩ := hreg <;> cases heq
  case inl =>
    refine ⟨_, hcall.step_regWrite_aggregates hbus (writeEffect_mask v _), aggregated_answered .., fun _ => ?_, nofun, nofun,
      frame v, answered_storedAndAggregated (hb := nofun) ..⟩
    simp [mainMask_storedAndAggregated, mainStatus_storedAndAggregated, summaryBit_storedAndAggregated_b15]
  case inr.inl =>
    refine ⟨_, hcall.step_regWrite_aggregates (w := s.mainStatus &&& v) hbus (writeEffect_status v _),
      aggregated_answered .., nofun, fun _ => ?_, nofun, frame _,
      answered_storedAndAggregated (hb := nofun) ..⟩
    simp [mainMask_storedAndAggregated, mainStatus_storedAndAggregated, summaryBit_storedAndAggregated_b15]
  case inr.inr =>
    refine ⟨_, hcall.step_regWrite_aggregates (w := s.cause i &&& ~~~v) hbus (writeEffect_cause i v _),
      aggregated_answered .., nofun, nofun, fun j hj => ?_, frame _,
      answered_storedAndAggregated (hb := nofun) ..⟩
    obtain rfl : i = j := by simpa [Fin.ext_iff] using hj
    simp [cause_storedAndAggregated, mainMask_storedAndAggregated, mainStatus_storedAndAggregated]

/-! ## A read that clears (R251, R253) -/

/-- A read of a location that one entry of `READ_CLEAR` lists clears that entry's bits and aggregates (R253). -/
theorem readEffect_of_listed {s : State} {b : Block} {o : Nat} {mask : Word} (h : s.cfg.readClear = [⟨b, o, mask⟩]) :
    readEffect b o s = storedAndAggregated b o (s.reg b o &&& ~~~mask) s := by
  have hfind : (s.cfg.readClear.find? fun r => decide (r.block = b) && decide (r.offset = o)) = some ⟨b, o, mask⟩ := by
    simp [h]
  rw [readEffect, hfind]
  rfl

/-- A read access to a register that `READ_CLEAR` lists answers the word from before the clearing (R251). -/
theorem regRead_listed {s : State} {addr : Word} {n : Nat} {b : Block} {o : Nat} {mask : Word}
    (hbus : busDecode s.cfg addr n = some (b, o)) (hid : (b, o) ≠ (.b18, 0)) (hsec : (b, o) ≠ (.b1A, 0x18))
    (hsega : (b, o) ≠ (.b1A, s.cfg.offSegaId)) (hclear : s.cfg.readClear = [⟨b, o, mask⟩]) :
    regRead addr n s = finish (.value (s.reg b o)) (storedAndAggregated b o (s.reg b o &&& ~~~mask) s) := by
  have hseg : isSegaId s.cfg b o = false := by simpa [isSegaId] using hsega
  simp [regRead_of_busDecode hbus, hseg, readValue_stored hid hsec hseg, readEffect_of_listed hclear]

/-- The step that reads a cause listed in `READ_CLEAR`. -/
theorem HostCalls.step_regRead_cause {s : State} {addr mask : Word} {i : Fin 4} {rest : List HostOp}
    (h : HostCalls s (.regRead addr 4) rest) (hbus : busDecode s.cfg addr 4 = some (.b1A, 0x08 + 4 * i.val))
    (hsega : s.cfg.offSegaId ≠ 0x08 + 4 * i.val) (hclear : s.cfg.readClear = [⟨.b1A, 0x08 + 4 * i.val, mask⟩]) :
    step s = .next (answered rest (.value (s.cause i))
      (storedAndAggregated .b1A (0x08 + 4 * i.val) (s.cause i &&& ~~~mask) s)) := by
  have hsec : (Block.b1A, 0x08 + 4 * i.val) ≠ (.b1A, 0x18) := by
    simp only [ne_eq, Prod.mk.injEq, true_and]
    omega
  have hread := regRead_listed (s := { s with inputs := rest }) hbus nofun hsec (by simpa using hsega.symm) hclear
  exact h.step_regRead.trans (congrArg _ hread)

/-- Settles O50: the read is a store to the cause that aggregates, with the word from before the store as its value. -/
theorem readClearClearsAfterTheRead : Obligations.ReadClearClearsAfterTheRead := by
  intro s addr i mask rest hcall hbus hsega hclear
  refine ⟨_, hcall.step_regRead_cause hbus hsega hclear, rfl, ?cleared, fun j hj => ?others, aggregated_answered ..,
    ?status, ?mask, answered_storedAndAggregated (hb := nofun) ..⟩
  case cleared => simp [cause_storedAndAggregated]
  case others => simp [cause_storedAndAggregated, Fin.val_inj, hj.symm]
  case status => simp [mainStatus_storedAndAggregated]
  case mask => simp [mainMask_storedAndAggregated]

end Sys2Proof.Machine
end

section
/-! The interrupt controller's two operations (R296, R297): what each leaves at every location, and that each is idempotent on
any register storage, canonical or not. -/

namespace Sys2Proof.Machine

/-! ## Aggregate (R296) -/

/-- `Aggregate()` is idempotent: it leaves the causes and the mask, and the bit it forces into the status is there already. -/
theorem aggregate_aggregate (s : State) : aggregate (aggregate s) = aggregate s := by
  have hsec : secOfCauses (aggregate s) = secOfCauses s := rfl
  have hstatus : summaryStatus (secOfCauses s) (aggregate s).mainStatus = summaryStatus (secOfCauses s) s.mainStatus := by
    rw [mainStatus_aggregate, summaryStatus_secOfCauses, summaryStatus_secOfCauses, BitVec.or_assoc, BitVec.or_self]
  rw [aggregate, hsec, hstatus, mainMask_aggregate]
  simp only [aggregate, RegBlock.set_set]

/-- After `Aggregate()` the status is stored in the form that storing it again leaves. -/
theorem reg15_aggregate_set_mainStatus (s : State) :
    (aggregate s).reg15.set offStatus (aggregate s).mainStatus = (aggregate s).reg15 := by
  rw [mainStatus_aggregate, ← summaryStatus_secOfCauses]
  exact RegBlock.set_set _ _ _

/-! ## Raising a cause again (R297) -/

/-- What is listed at two different keys does not depend on which was put first. -/
theorem putKey_comm {β : Type} (l : List (Nat × β)) {a b : Nat} (v w : β) (h : a ≠ b) :
    putKey (putKey l a v) b w = putKey (putKey l b w) a v := by
  induction l with
  | nil => grind [putKey]
  | cons p t ih => grind [putKey]

/-- Nonzero words stored at two offsets end up in the same block in either order. -/
theorem RegBlock.set_comm (l : RegBlock) {o p : Nat} {v w : Word} (h : o ≠ p) (hv : v ≠ 0) (hw : w ≠ 0) :
    (l.set o v).set p w = (l.set p w).set o v := by
  simp only [RegBlock.set, if_neg hv, if_neg hw, putKey_comm l v w h]

theorem or_one_ne_zero (x : Word) : x ||| 1 ≠ 0 := fun h => by
  simpa using congrArg (BitVec.getLsbD · 0) h

theorem raiseCause_of_mem {sec : BitVec 4} {i : Fin 4} (h : sec.getLsbD i.val = true) (l : RegBlock) :
    raiseCause sec i l = l.set (offCause i) (l.get (offCause i) ||| 1) := if_pos h

theorem raiseCause_of_not_mem {sec : BitVec 4} {i : Fin 4} (h : ¬ sec.getLsbD i.val = true) (l : RegBlock) :
    raiseCause sec i l = l := if_neg h

/-- A cause raised twice is raised once. -/
theorem raiseCause_self (sec : BitVec 4) (i : Fin 4) (l : RegBlock) :
    raiseCause sec i (raiseCause sec i l) = raiseCause sec i l := by
  by_cases h : sec.getLsbD i.val = true
  · rw [raiseCause_of_mem h, raiseCause_of_mem h, RegBlock.get_set, if_pos rfl, BitVec.or_assoc, BitVec.or_self,
      RegBlock.set_set]
  · exact raiseCause_of_not_mem h _

/-- Causes are raised in any order. -/
theorem raiseCause_comm (sec : BitVec 4) (i j : Fin 4) (l : RegBlock) :
    raiseCause sec i (raiseCause sec j l) = raiseCause sec j (raiseCause sec i l) := by
  by_cases hij : i = j
  · rw [hij]
  by_cases hi : sec.getLsbD i.val = true
  · by_cases hj : sec.getLsbD j.val = true
    · have hne : offCause i ≠ offCause j := fun h => hij (Fin.ext (by simpa [offCause] using h))
      simp only [raiseCause_of_mem hi, raiseCause_of_mem hj, RegBlock.get_set, if_neg hne, if_neg hne.symm]
      exact RegBlock.set_comm l hne.symm (or_one_ne_zero _) (or_one_ne_zero _)
    · simp only [raiseCause_of_not_mem hj]
  · simp only [raiseCause_of_not_mem hi]

/-- A cause that stands raised in a block still does after another is raised. -/
theorem raiseCause_raiseCause_of_raised {sec : BitVec 4} {i : Fin 4} {l : RegBlock} (j : Fin 4)
    (h : raiseCause sec i l = l) : raiseCause sec i (raiseCause sec j l) = raiseCause sec j l := by
  rw [raiseCause_comm, h]

/-- Block 1A with the causes of `sec` raised, as `IrqRaise` leaves it. -/
def causesRaised (sec : BitVec 4) (l : RegBlock) : RegBlock :=
  raiseCause sec 3 (raiseCause sec 2 (raiseCause sec 1 (raiseCause sec 0 l)))

theorem irqRaised_reg1A (main : BitVec 8) (sec : BitVec 4) (s : State) :
    (irqRaised main sec s).reg1A = causesRaised sec s.reg1A := rfl

/-- Each cause of `sec` stands raised in the block that `IrqRaise` leaves. -/
theorem raiseCause_causesRaised (sec : BitVec 4) (i : Fin 4) (l : RegBlock) :
    raiseCause sec i (causesRaised sec l) = causesRaised sec l := by
  match i with
  | 0 => exact raiseCause_raiseCause_of_raised _ (raiseCause_raiseCause_of_raised _
      (raiseCause_raiseCause_of_raised _ (raiseCause_self _ _ _)))
  | 1 => exact raiseCause_raiseCause_of_raised _ (raiseCause_raiseCause_of_raised _ (raiseCause_self _ _ _))
  | 2 => exact raiseCause_raiseCause_of_raised _ (raiseCause_self _ _ _)
  | 3 => exact raiseCause_self _ _ _

theorem causesRaised_causesRaised (sec : BitVec 4) (l : RegBlock) :
    causesRaised sec (causesRaised sec l) = causesRaised sec l := by
  rw [causesRaised, raiseCause_causesRaised, raiseCause_causesRaised, raiseCause_causesRaised, raiseCause_causesRaised]

/-! ## IrqRaise (R297) -/

section

variable (main : BitVec 8) (sec : BitVec 4) (s : State)

theorem mainStatus_irqRaise :
    (irqRaise main sec s).mainStatus = s.mainStatus ||| main.setWidth 32 ||| summaryBit (irqRaise main sec s) := by
  rw [irqRaise_eq, mainStatus_aggregate, summaryBit_aggregate, mainStatus_irqRaised]

theorem cause_irqRaise (i : Fin 4) :
    (irqRaise main sec s).cause i = if sec.getLsbD i.val then s.cause i ||| 1 else s.cause i := by
  rw [irqRaise_eq, cause_aggregate, cause_irqRaised]

theorem reg_irqRaise_of_not_raised {b : Block} {o : Nat} (h : ¬ raisedRegister b o) :
    (irqRaise main sec s).reg b o = s.reg b o := by
  rw [irqRaise_eq, reg_aggregate_of_not_raised _ h, reg_irqRaised_of_not_raised _ _ _ h]

theorem aggregated_irqRaise : Aggregated (irqRaise main sec s) := aggregated_aggregate _

/-- A raise writes blocks 15 and 1A and the interrupt outputs only. -/
theorem irqRaise_frame :
    irqRaise main sec s = { s with
      reg15 := (irqRaise main sec s).reg15, reg1A := (irqRaise main sec s).reg1A
      secStatus := (irqRaise main sec s).secStatus, irqLine := (irqRaise main sec s).irqLine } := rfl

/-- The bits of a raise stand in the status it leaves. -/
theorem mainStatus_irqRaise_or :
    (irqRaise main sec s).mainStatus ||| main.setWidth 32 = (irqRaise main sec s).mainStatus := by
  rw [mainStatus_irqRaise, BitVec.or_assoc, BitVec.or_comm (summaryBit _), ← BitVec.or_assoc, BitVec.or_assoc s.mainStatus,
    BitVec.or_self]

/-- After a raise, its bits are already where it would write them again. -/
theorem irqRaised_irqRaise : irqRaised main sec (irqRaise main sec s) = irqRaise main sec s := by
  have h15 : (irqRaised main sec (irqRaise main sec s)).reg15 = (irqRaise main sec s).reg15 :=
    (congrArg _ (mainStatus_irqRaise_or main sec s)).trans (reg15_aggregate_set_mainStatus _)
  have h1A : (irqRaised main sec (irqRaise main sec s)).reg1A = (irqRaise main sec s).reg1A :=
    causesRaised_causesRaised sec s.reg1A
  calc irqRaised main sec (irqRaise main sec s)
    _ = { irqRaise main sec s with
          reg15 := (irqRaised main sec (irqRaise main sec s)).reg15
          reg1A := (irqRaised main sec (irqRaise main sec s)).reg1A } := rfl
    _ = irqRaise main sec s := by rw [h15, h1A]

theorem irqRaise_irqRaise : irqRaise main sec (irqRaise main sec s) = irqRaise main sec s := by
  rw [irqRaise_eq, irqRaised_irqRaise, irqRaise_eq, aggregate_aggregate]

end

/-- The locations that O55 excepts are those that a raise writes. -/
theorem not_raisedRegister_of_ne {b : Block} {o : Nat} (hstatus : (b, o) ≠ (.b15, 0x88))
    (hcauses : (b, o) ∉ [(Block.b1A, 0x08), (.b1A, 0x0C), (.b1A, 0x10), (.b1A, 0x14)]) : ¬ raisedRegister b o := by
  rintro (heq | ⟨i, heq⟩)
  · exact hstatus heq
  · rw [heq] at hcauses
    match i with
    | 0 | 1 | 2 | 3 => simp at hcauses

/-- Settles O55: the two operations register by register, and the bits each writes are already there the second time. -/
theorem aggregateAndIrqRaise : Obligations.AggregateAndIrqRaise := by
  intro s main sec
  refine ⟨⟨aggregated_aggregate s, mainStatus_aggregate s, reg_aggregate_of_ne s, rfl, aggregate_aggregate s⟩,
    mainStatus_irqRaise main sec s, cause_irqRaise main sec s, aggregated_irqRaise main sec s, ?_,
    irqRaise_frame main sec s, irqRaise_irqRaise main sec s⟩
  exact fun b o hstatus hcauses => reg_irqRaise_of_not_raised main sec s (not_raisedRegister_of_ne hstatus hcauses)

end Sys2Proof.Machine
end

section
/-! The indirect DMA stepper (R280 to R283): what a rejected address and a consumed entry do, and the walk over several
entries. -/

namespace Sys2Proof.Machine

/-! ## The open offsets of the IDMA registers (R9) -/

theorem not_raisedRegister_idmaAddr {c : Cfg} (h : c.wf = true) : ¬ raisedRegister .b15 c.offIdmaAddr := by
  obtain ⟨-, hquiet⟩ := quiet_of_mem_offsets15 (o := c.offIdmaAddr) (by simp [Cfg.offsets15]) h
  exact hquiet

theorem not_raisedRegister_idmaCount {c : Cfg} (h : c.wf = true) : ¬ raisedRegister .b15 c.offIdmaCount := by
  obtain ⟨-, hquiet⟩ := quiet_of_mem_offsets15 (o := c.offIdmaCount) (by simp [Cfg.offsets15]) h
  exact hquiet

theorem offIdmaAddr_ne_offIdmaCount {c : Cfg} (h : c.wf = true) : c.offIdmaAddr ≠ c.offIdmaCount := by
  simp only [Cfg.wf, Cfg.offsetsWf, Bool.and_eq_true, decide_eq_true_eq, List.nodup_cons] at h
  obtain ⟨⟨-, ⟨⟨-, -, -, hdistinct⟩, -⟩, -⟩, -⟩ := h
  simp only [Cfg.offsets15, List.nodup_cons, List.mem_cons, not_or] at hdistinct
  tauto

/-! ## The check of the address (R281, R295) -/

theorem idmaMarked_iff (c : Cfg) (a : Word) : idmaMarked c a = true ↔ a.extractLsb' 24 8 = c.idmaMarker := decide_eq_true_iff

theorem aligned4_iff (a : Word) : aligned4 a = true ↔ a &&& 3 = 0 := decide_eq_true_iff

section

variable {c : Cfg} {a : Word} (d : Word)

theorem idmaAddressFault_unmarked (hmark : ¬ idmaMarked c a = true) (halign : aligned4 a = true) :
    idmaAddressFault c a d = some (.idmaBadMarker a) := by
  rw [idmaAddressFault, if_neg hmark, if_pos halign]

theorem idmaAddressFault_misaligned (hmark : idmaMarked c a = true) (halign : ¬ aligned4 a = true) :
    idmaAddressFault c a d = some (.idmaMisaligned a) := by
  rw [idmaAddressFault, if_pos hmark, if_neg halign]

/-- The draw picks the reason where both checks fail (R295). -/
theorem idmaAddressFault_both (hmark : ¬ idmaMarked c a = true) (halign : ¬ aligned4 a = true) :
    idmaAddressFault c a d = some (.idmaBadMarker a) ∨ idmaAddressFault c a d = some (.idmaMisaligned a) := by
  rw [idmaAddressFault, if_neg hmark, if_neg halign]
  split
  · exact .inl rfl
  · exact .inr rfl

end

/-! ## One step (R281) -/

theorem idmaStep_of_count_zero {s : State} (h : s.idmaCount = 0) : idmaStep s = s := if_pos h

/-- A rejected address raises its fault, at the cost of a draw, and consumes nothing. -/
theorem idmaStep_of_rejected {s : State} (hfault : s.fault = none) (hcount : s.idmaCount ≠ 0)
    (h : ¬ (idmaMarked s.cfg s.idmaAddr = true ∧ aligned4 s.idmaAddr = true)) :
    idmaStep s =
      { s with fault := idmaAddressFault s.cfg s.idmaAddr (Config.draw s.draws), draws := s.draws + 1 } := by
  have hraises := mt (idmaAddressFault_eq_none_iff s.cfg s.idmaAddr (Config.draw s.draws)).mp h
  obtain ⟨r, hr⟩ := Option.ne_none_iff_exists'.mp hraises
  have hstep : idmaStep s = raise r { s with draws := s.draws + 1 } := by rw [idmaStep, if_neg hcount, hr]
  rw [hstep, hr]
  simp [raise, hfault]

/-- An accepted address is that of an entry, which is consumed unless its length is 0 (R283). -/
theorem idmaStep_of_accepted {s : State} (hcount : s.idmaCount ≠ 0) (hmark : idmaMarked s.cfg s.idmaAddr = true)
    (halign : aligned4 s.idmaAddr = true) :
    idmaStep s = if memRead s (s.idmaAddr + 4) = 0 then s else idmaConsume s := by
  have hok := (idmaAddressFault_eq_none_iff s.cfg s.idmaAddr (Config.draw s.draws)).mpr ⟨hmark, halign⟩
  rw [idmaStep, if_neg hcount, hok]
  rfl

/-! ## The consumption of an entry (R281, R282) -/

/-- The state with the IDMA registers moved on by one entry, before any completion interrupt. -/
def idmaAdvanced (s : State) : State :=
  setReg .b15 s.cfg.offIdmaCount (s.idmaCount - 1) (setReg .b15 s.cfg.offIdmaAddr (s.idmaAddr + 16) s)

theorem idmaConsume_of_count_ne_one {s : State} (h : s.idmaCount ≠ 1) : idmaConsume s = idmaAdvanced s :=
  if_neg fun hzero => h (sub_eq_zero.mp hzero)

/-- The last entry raises the DMA completion pair. -/
theorem idmaConsume_of_count_eq_one {s : State} (h : s.idmaCount = 1) :
    idmaConsume s = irqRaise s.cfg.dmaDoneMain s.cfg.dmaDoneSec (idmaAdvanced s) :=
  if_pos (by rw [h]; rfl)

/-- The consumption of an entry writes blocks 15 and 1A and the interrupt outputs only. -/
theorem idmaConsume_frame (s : State) :
    idmaConsume s = { s with
      reg15 := (idmaConsume s).reg15, reg1A := (idmaConsume s).reg1A
      secStatus := (idmaConsume s).secStatus, irqLine := (idmaConsume s).irqLine } := by
  by_cases h : s.idmaCount = 1
  · rw [idmaConsume_of_count_eq_one h]
    rfl
  · rw [idmaConsume_of_count_ne_one h]
    rfl

/-- The completion interrupt aside, the last entry is consumed as any other. -/
theorem reg_idmaConsume_of_not_raised (s : State) {b : Block} {o : Nat} (h : ¬ raisedRegister b o) :
    (idmaConsume s).reg b o = (idmaAdvanced s).reg b o := by
  by_cases hone : s.idmaCount = 1
  · rw [idmaConsume_of_count_eq_one hone, reg_irqRaise_of_not_raised _ _ _ h]
  · rw [idmaConsume_of_count_ne_one hone]

theorem idmaConsume_cfg (s : State) : (idmaConsume s).cfg = s.cfg := by rw [idmaConsume_frame]
theorem idmaConsume_fault (s : State) : (idmaConsume s).fault = s.fault := by rw [idmaConsume_frame]
theorem idmaConsume_cram (s : State) : (idmaConsume s).cram = s.cram := by rw [idmaConsume_frame]
theorem idmaConsume_powerUp (s : State) : (idmaConsume s).powerUp = s.powerUp := by rw [idmaConsume_frame]

theorem reg_idmaAdvanced_of_ne (s : State) {b : Block} {o : Nat} (haddr : (b, o) ≠ (.b15, s.cfg.offIdmaAddr))
    (hcount : (b, o) ≠ (.b15, s.cfg.offIdmaCount)) : (idmaAdvanced s).reg b o = s.reg b o := by
  rw [idmaAdvanced, reg_setReg, if_neg fun h => hcount (by rw [h.1, h.2]), reg_setReg,
    if_neg fun h => haddr (by rw [h.1, h.2])]

section

variable {s : State} (hwf : s.cfg.wf = true)
include hwf

theorem idmaConsume_idmaAddr : (idmaConsume s).idmaAddr = s.idmaAddr + 16 := by
  have hne : ¬ (Block.b15 = .b15 ∧ s.cfg.offIdmaCount = s.cfg.offIdmaAddr) :=
    fun h => offIdmaAddr_ne_offIdmaCount hwf h.2.symm
  rw [State.idmaAddr, idmaConsume_cfg, reg_idmaConsume_of_not_raised s (not_raisedRegister_idmaAddr hwf), idmaAdvanced,
    reg_setReg, if_neg hne, reg_setReg, if_pos ⟨rfl, rfl⟩]

theorem idmaConsume_idmaCount : (idmaConsume s).idmaCount = s.idmaCount - 1 := by
  rw [State.idmaCount, idmaConsume_cfg, reg_idmaConsume_of_not_raised s (not_raisedRegister_idmaCount hwf), idmaAdvanced,
    reg_setReg, if_pos ⟨rfl, rfl⟩]

theorem mainStatus_idmaAdvanced : (idmaAdvanced s).mainStatus = s.mainStatus := by
  rw [idmaAdvanced, mainStatus_setReg _ _ (not_raisedRegister_idmaCount hwf),
    mainStatus_setReg _ _ (not_raisedRegister_idmaAddr hwf)]

theorem cause_idmaAdvanced (i : Fin 4) : (idmaAdvanced s).cause i = s.cause i := by
  rw [idmaAdvanced, cause_setReg _ _ (not_raisedRegister_idmaCount hwf), cause_setReg _ _ (not_raisedRegister_idmaAddr hwf)]

/-- An entry that is not the last leaves the interrupt registers and outputs. -/
theorem idmaConsume_quiet (h : s.idmaCount ≠ 1) :
    (idmaConsume s).mainStatus = s.mainStatus ∧ (idmaConsume s).reg1A = s.reg1A
      ∧ (idmaConsume s).secStatus = s.secStatus ∧ (idmaConsume s).irqLine = s.irqLine := by
  rw [idmaConsume_of_count_ne_one h]
  exact ⟨mainStatus_idmaAdvanced hwf, rfl, rfl, rfl⟩

/-- The last entry raises the DMA completion pair over the registers as the step found them (R282, R297). -/
theorem idmaConsume_completes (h : s.idmaCount = 1) :
    (idmaConsume s).mainStatus = s.mainStatus ||| s.cfg.dmaDoneMain.setWidth 32 ||| summaryBit (idmaConsume s)
      ∧ (∀ i : Fin 4, (idmaConsume s).cause i = if s.cfg.dmaDoneSec.getLsbD i.val then s.cause i ||| 1 else s.cause i)
      ∧ Aggregated (idmaConsume s) := by
  rw [idmaConsume_of_count_eq_one h]
  refine ⟨?_, fun i => ?_, aggregated_irqRaise _ _ _⟩
  · rw [mainStatus_irqRaise, mainStatus_idmaAdvanced hwf]
  · rw [cause_irqRaise, cause_idmaAdvanced hwf]

end

/-- Settles O56: the count, the check of the address and the length pick the case, and each case has its lemma. -/
theorem idmaStepFollowsItsRule : Obligations.IdmaStepFollowsItsRule := by
  intro s hwf hfault a t marked aligned
  have hmarked : idmaMarked s.cfg a = true ↔ marked := idmaMarked_iff _ _
  have haligned : aligned4 a = true ↔ aligned := aligned4_iff _
  have hrejected (hcount : s.idmaCount ≠ 0) (h : ¬ (marked ∧ aligned)) :
      t = { s with fault := idmaAddressFault s.cfg a (Config.draw s.draws), draws := s.draws + 1 } :=
    idmaStep_of_rejected hfault hcount (by rwa [hmarked, haligned])
  have haccepted (hcount : s.idmaCount ≠ 0) (hm : marked) (ha : aligned) :
      t = if memRead s (a + 4) = 0 then s else idmaConsume s :=
    idmaStep_of_accepted hcount (hmarked.mpr hm) (haligned.mpr ha)
  refine ⟨idmaStep_of_count_zero, fun hcount h => ?rejected, fun hcount hm ha => ?unmarked, fun hcount hm ha => ?misaligned,
    fun hcount hm ha => ?both, fun hcount hm ha hzero => ?stalls, fun hcount hm ha hlength => ?consumes⟩
  case rejected => rw [hrejected hcount h]
  case unmarked =>
    rw [hrejected hcount fun h => hm h.1]
    exact idmaAddressFault_unmarked _ (mt hmarked.mp hm) (haligned.mpr ha)
  case misaligned =>
    rw [hrejected hcount fun h => ha h.2]
    exact idmaAddressFault_misaligned _ (hmarked.mpr hm) (mt haligned.mp ha)
  case both =>
    rw [hrejected hcount fun h => hm h.1]
    exact idmaAddressFault_both _ (mt hmarked.mp hm) (mt haligned.mp ha)
  case stalls => rw [haccepted hcount hm ha, if_pos hzero]
  case consumes =>
    rw [haccepted hcount hm ha, if_neg hlength]
    exact ⟨idmaConsume_idmaAddr hwf, idmaConsume_idmaCount hwf, idmaConsume_frame s,
      fun b o haddr hcnt hraised => (reg_idmaConsume_of_not_raised s hraised).trans (reg_idmaAdvanced_of_ne s haddr hcnt),
      idmaConsume_quiet hwf, idmaConsume_completes hwf⟩

end Sys2Proof.Machine
end

section
/-! A walk of the indirect DMA stepper over well-formed entries (R282): one entry a step, and the completion interrupt with the
last. -/

namespace Sys2Proof.Machine

/-! ## A well-formed entry (R281) -/

/-- The address `a` is accepted and the entry there has a length. -/
structure GoodEntry (s : State) (a : Word) : Prop where
  marked : idmaMarked s.cfg a = true
  aligned : aligned4 a = true
  length : memRead s (a + 4) ≠ 0

/-- What memory reads depends on the configuration, command RAM and the power-up only (R60). -/
theorem memRead_congr {s t : State} (hcfg : t.cfg = s.cfg) (hcram : t.cram = s.cram) (hpower : t.powerUp = s.powerUp)
    (a : Word) : memRead t a = memRead s a := by
  simp only [memRead, State.readByte, State.byteAt, hcfg, hcram, hpower]

theorem idmaStep_of_goodEntry {s : State} (hcount : s.idmaCount ≠ 0) (h : GoodEntry s s.idmaAddr) :
    idmaStep s = idmaConsume s := by
  rw [idmaStep_of_accepted hcount h.marked h.aligned, if_neg h.length]

/-- Every 16 bytes from an aligned address on are aligned. -/
theorem aligned4_add_entries {a : Word} (h : aligned4 a = true) (n : Nat) :
    aligned4 (a + BitVec.ofNat 32 (16 * n)) = true := by
  have haligned_iff (x : Word) : aligned4 x = true ↔ x.toNat % 4 = 0 := by
    rw [aligned4_iff, ← BitVec.toNat_inj, BitVec.toNat_and]
    exact iff_of_eq (congrArg (· = 0) (Nat.and_two_pow_sub_one_eq_mod x.toNat 2))
  rw [haligned_iff] at h ⊢
  rw [BitVec.toNat_add, BitVec.toNat_ofNat]
  omega

/-! ## The walk (R282) -/

/-- What `n` consumed entries make of `s`: the IDMA registers have moved on, and what the next step reads besides is as it
was. -/
structure IdmaWalked (s : State) (n : Nat) (t : State) : Prop where
  addr : t.idmaAddr = s.idmaAddr + BitVec.ofNat 32 (16 * n)
  count : t.idmaCount = s.idmaCount - BitVec.ofNat 32 n
  fault : t.fault = s.fault
  cfg : t.cfg = s.cfg
  cram : t.cram = s.cram
  powerUp : t.powerUp = s.powerUp

theorem IdmaWalked.refl (s : State) : IdmaWalked s 0 s := ⟨by simp, by simp, rfl, rfl, rfl, rfl⟩

/-- The next entry of a walk consumed. -/
theorem IdmaWalked.consume {s t : State} {n : Nat} (h : IdmaWalked s n t) (hwf : s.cfg.wf = true) :
    IdmaWalked s (n + 1) (idmaConsume t) where
  addr := by
    rw [idmaConsume_idmaAddr (h.cfg ▸ hwf), h.addr, BitVec.add_assoc, Nat.mul_succ, BitVec.ofNat_add]
    rfl
  count := by
    rw [idmaConsume_idmaCount (h.cfg ▸ hwf), h.count, BitVec.ofNat_add, sub_sub]
    rfl
  fault := (idmaConsume_fault t).trans h.fault
  cfg := (idmaConsume_cfg t).trans h.cfg
  cram := (idmaConsume_cram t).trans h.cram
  powerUp := (idmaConsume_powerUp t).trans h.powerUp

theorem IdmaWalked.goodEntry {s t : State} {n : Nat} (h : IdmaWalked s n t)
    (hgood : GoodEntry s (s.idmaAddr + BitVec.ofNat 32 (16 * n))) : GoodEntry t t.idmaAddr := by
  rw [h.addr]
  refine ⟨?_, hgood.aligned, ?_⟩
  · rw [h.cfg]
    exact hgood.marked
  · rw [memRead_congr h.cfg h.cram h.powerUp]
    exact hgood.length

theorem ofNat_sub_ofNat_of_le {k n : Nat} (h : n ≤ k) : BitVec.ofNat 32 k - BitVec.ofNat 32 n = BitVec.ofNat 32 (k - n) := by
  rw [sub_eq_iff_eq_add, ← BitVec.ofNat_add, Nat.sub_add_cancel h]

section

variable {s : State} {k : Nat} (hwf : s.cfg.wf = true) (hk : k < 2 ^ 32) (hcount : s.idmaCount = BitVec.ofNat 32 k)
  (hgood : ∀ j < k, GoodEntry s (s.idmaAddr + BitVec.ofNat 32 (16 * j)))

include hcount in
theorem IdmaWalked.count_eq {t : State} {n : Nat} (h : IdmaWalked s n t) (hn : n ≤ k) :
    t.idmaCount = BitVec.ofNat 32 (k - n) := by
  rw [h.count, hcount, ofNat_sub_ofNat_of_le hn]

include hk hcount in
/-- As many entries are left as have not been consumed. -/
theorem IdmaWalked.count_eq_iff {t : State} {n m : Nat} (h : IdmaWalked s n t) (hn : n ≤ k) (hm : m < 2 ^ 32) :
    t.idmaCount = BitVec.ofNat 32 m ↔ n + m = k := by
  rw [h.count_eq hcount hn, ← BitVec.toNat_inj, BitVec.toNat_ofNat, BitVec.toNat_ofNat]
  omega

include hk hcount hgood in
/-- While entries are left, the next step of the walk consumes one. -/
theorem IdmaWalked.idmaStep_eq {t : State} {n : Nat} (h : IdmaWalked s n t) (hn : n < k) : idmaStep t = idmaConsume t := by
  have hleft : t.idmaCount ≠ 0 := fun hzero => by
    have hdone : n + 0 = k := (h.count_eq_iff hk hcount hn.le (by omega)).mp hzero
    omega
  exact idmaStep_of_goodEntry hleft (h.goodEntry (hgood n hn))

include hwf hk hcount hgood

theorem idmaSteps_walked {n : Nat} (hn : n ≤ k) : IdmaWalked s n (idmaSteps n s) := by
  induction n with
  | zero => exact .refl s
  | succ n ih =>
    have hwalked := ih (Nat.le_of_succ_le hn)
    rw [idmaSteps, hwalked.idmaStep_eq hk hcount hgood hn]
    exact hwalked.consume hwf

theorem idmaSteps_succ {n : Nat} (hn : n < k) : idmaSteps (n + 1) s = idmaConsume (idmaSteps n s) :=
  (idmaSteps_walked hwf hk hcount hgood hn.le).idmaStep_eq hk hcount hgood hn

/-- Before the last entry no step touches the interrupt registers and outputs. -/
theorem idmaSteps_quiet {n : Nat} (hn : n < k) :
    (idmaSteps n s).mainStatus = s.mainStatus ∧ (idmaSteps n s).reg1A = s.reg1A
      ∧ (idmaSteps n s).irqLine = s.irqLine ∧ (idmaSteps n s).secStatus = s.secStatus := by
  induction n with
  | zero => exact ⟨rfl, rfl, rfl, rfl⟩
  | succ n ih =>
    obtain ⟨hstatus, h1A, hline, hsec⟩ := ih (Nat.lt_of_succ_lt hn)
    have hwalked := idmaSteps_walked hwf hk hcount hgood (Nat.lt_of_succ_lt hn).le
    have hnotLast : (idmaSteps n s).idmaCount ≠ 1 := fun hone => by
      have hlast : n + 1 = k := (hwalked.count_eq_iff hk hcount (Nat.lt_of_succ_lt hn).le (by omega)).mp hone
      omega
    obtain ⟨hstatus', h1A', hsec', hline'⟩ := idmaConsume_quiet (by rwa [hwalked.cfg]) hnotLast
    rw [idmaSteps_succ hwf hk hcount hgood (Nat.lt_of_succ_lt hn)]
    exact ⟨hstatus'.trans hstatus, h1A'.trans h1A, hline'.trans hline, hsec'.trans hsec⟩

/-- The last step of the walk leaves the DMA completion pair raised and aggregated. -/
theorem idmaSteps_completes (hpos : 0 < k) :
    (idmaSteps k s).mainStatus &&& s.cfg.dmaDoneMain.setWidth 32 = s.cfg.dmaDoneMain.setWidth 32
      ∧ (∀ i : Fin 4, s.cfg.dmaDoneSec.getLsbD i.val = true → ((idmaSteps k s).cause i).getLsbD 0 = true)
      ∧ Aggregated (idmaSteps k s) := by
  obtain ⟨n, rfl⟩ := Nat.exists_eq_add_one.mpr hpos
  have hwalked := idmaSteps_walked hwf hk hcount hgood (Nat.le_add_right n 1)
  have hlast : (idmaSteps n s).idmaCount = 1 :=
    (hwalked.count_eq_iff (m := 1) hk hcount (Nat.le_add_right n 1) (by omega)).mpr rfl
  obtain ⟨hstatus, hcauses, haggregated⟩ := idmaConsume_completes (by rwa [hwalked.cfg]) hlast
  rw [hwalked.cfg] at hstatus hcauses
  rw [idmaSteps_succ hwf hk hcount hgood (Nat.lt_succ_self n)]
  refine ⟨?_, fun i hi => ?_, haggregated⟩
  · rw [hstatus]
    ext b hb
    simp only [BitVec.getElem_and, BitVec.getElem_or]
    grind
  · rw [hcauses, if_pos hi]
    simp

end

/-- Settles O57: the steps consume the entries in turn, the last of them completing, and with count 0 nothing moves. -/
theorem idmaWalkTakesOneStepPerEntry : Obligations.IdmaWalkTakesOneStepPerEntry := by
  intro s k hwf hfault hpos hk hcount hmarked haligned hlength
  have hgood (j : Nat) (hj : j < k) : GoodEntry s (s.idmaAddr + BitVec.ofNat 32 (16 * j)) :=
    ⟨hmarked j hj, aligned4_add_entries haligned j, hlength j hj⟩
  have hwalked (n : Nat) (hn : n ≤ k) := idmaSteps_walked hwf hk hcount hgood hn
  obtain ⟨hstatus, hcauses, haggregated⟩ := idmaSteps_completes hwf hk hcount hgood hpos
  refine ⟨fun n hn => ⟨(hwalked n hn).count_eq hcount hn, (hwalked n hn).addr, (hwalked n hn).fault.trans hfault⟩,
    fun n hn => idmaSteps_quiet hwf hk hcount hgood hn, hstatus, hcauses, haggregated, ?_⟩
  exact idmaStep_of_count_zero (((hwalked k le_rfl).count_eq_iff (m := 0) hk hcount le_rfl (by omega)).mpr rfl)

end Sys2Proof.Machine
end

section
/-! `Reset()` (R320, R321). -/

namespace Sys2Proof.Machine

theorem HostCalls.step_reset {s : State} {rest : List HostOp} (h : HostCalls s .reset rest) :
    step s = .next (finish .done (resetDevice { s with inputs := rest })) :=
  h.step_eq.trans (congrArg Host.Outcome.next (onDevice_unfaulted _ _ h.unfaulted))

/-- Every register reads 0 after a reset (R28). -/
theorem reg_resetDevice (s : State) (b : Block) (o : Nat) : (resetDevice s).reg b o = 0 := by
  cases b <;> exact RegBlock.get_nil o

/-- An empty table holds no committed slot (R42). -/
theorem Table.get_nil {α : Type} (i : Nat) : Table.get ([] : Table α) i = ⟨false, none⟩ := rfl

theorem get_emptyViewport (k : Fin 6) : emptyViewport.get k = none := by
  match k with
  | 0 | 1 | 2 | 3 | 4 | 5 => rfl

theorem get_emptyModelview (r : Fin 4) : emptyModelview.get r = none := by
  match r with
  | 0 | 1 | 2 | 3 => rfl

theorem get_emptyRing (k : Fin 3) : emptyRing.get k = none := by
  match k with
  | 0 | 1 | 2 => rfl

theorem sp_resetDevice (s : State) (p : Fin 2) : (resetDevice s).sp.get p = 0 := by
  match p with
  | 0 | 1 => rfl

/-- Settles O59: a reset writes each element that it clears, and no other. -/
theorem resetClearsTheDevice : Obligations.ResetClearsTheDevice := by
  intro s rest h
  refine ⟨_, h.step_reset, rfl, rfl, h.unfaulted, reg_resetDevice s, rfl, rfl, rfl, rfl, sp_resetDevice s, rfl,
    fun i => ?_, get_emptyViewport, get_emptyModelview, rfl, rfl, rfl, rfl, get_emptyRing, rfl, rfl, rfl, rfl⟩
  exact ⟨Table.get_nil i, Table.get_nil i, Table.get_nil i, Table.get_nil i, Table.get_nil i, Table.get_nil i⟩

end Sys2Proof.Machine
end
